-- ==== Sys2Proof/Word.lean ====
section
/-! DEFINITION. The word types of the controller: a byte on the serial bus, a 32-bit host register or time reading,
and a 48-bit command frame. -/

namespace Sys2Proof

/-- A byte: bit 7 is its most significant bit (R9). -/
abbrev Byte := BitVec 8

/-- A 32-bit quantity; all arithmetic on it is modulo 2^32 (R9, R66). -/
abbrev U32 := BitVec 32

/-- A command frame as ONE 48-bit number, frame byte 0 in bits 47:40, as spec/opcode_table.json numbers it (R81). -/
abbrev Frame := BitVec 48

end Sys2Proof
end

