-- ==== Sys2Proof/Config.lean ====
section
/-! DEFINITION. What the spec leaves to an implementation (the OPEN parameters of R8) and the free values: constants
with no body, of which nothing can be proved, so that a statement holds whatever they are. -/

namespace Sys2Proof.Config

/-! ## The OPEN parameters of R8 (log entry 1) -/

/-- `N_PROG_DEFAULT`, the reset value of `N_PROG` (R8, R36). -/
opaque nProgDefault : U32
/-- `T_INIT_MS_DEFAULT`, the reset value of `T_INIT_MS` (R8, R36). -/
opaque tInitMsDefault : U32
/-- `INIT_BAUD_HZ`, the bus rate of the handshake (R8, R141, R234). -/
opaque initBaudHz : U32
/-- `DEFAULT_BAUD_HZ`, the reset value of `BAUD_HZ` (R8, R36). -/
opaque defaultBaudHz : U32
/-- `DATAIN_PIN_DEFAULT`, the reset value of `DATAIN_PIN` (R36). -/
opaque datainPinDefault : BitVec 8
/-- The members of `VALID_DATAIN_PINS` other than pin 4, the one pin the spec shows to be valid (R185). -/
opaque otherDatainPin : BitVec 8 → Bool
/-- `SHORT_READ_POSSIBLE`: whether the transport can deliver fewer than 512 bytes in a burst (R8, R163). -/
opaque shortReadPossible : Bool

/-! ## The two checksum functions of R8 and R12: of neither is anything known but that it depends on its argument (log entry 9) -/

/-- `crc7byte`: the first five bytes of a frame, frame byte 0 highest, to the finished sixth byte (R8, R12). -/
opaque crc7byte : BitVec 40 → Byte
/-- `crc16`: a byte string to its 16-bit check value (R8, R12). -/
opaque crc16 : List Byte → BitVec 16

/-! ## Free values -/

/-- The byte the card answers in the `n`-th draw, where the state's queue of card bytes is empty (R6; log entry 2). -/
opaque freeRx : Nat → Byte
/-- The reading of the time source in the `n`-th draw, where the queue of readings is empty (R210; log entry 3). -/
opaque freeTime : Nat → U32
/-- The delivered count of a burst in the `n`-th draw, where the queue of counts is empty (R163; log entry 4). -/
opaque freeBurst : Nat → BitVec 10
/-- The byte a `BufRead` returns while `BUSY = 1` (R31, R75; log entry 5). -/
opaque freeBufRead : Nat → Byte
/-- Byte `k` of `BUF` after the `n`-th reset, until something writes it (R36: unspecified; log entry 6). -/
opaque freeBuf : Nat → BitVec 9 → Byte
/-- `cur_baud` after the `n`-th reset, until the first `SET_BAUD` (R30, R36: unspecified; log entry 7). -/
opaque freeBaud : Nat → U32

end Sys2Proof.Config
end

