-- ==== Sys2Proof/Machine/Constants.lean ====
section
/-! DEFINITION. The constants of the protocol: fixed bytes, command numbers, command arguments and the default bounds.
Those the spec marks [from general knowledge, not in source] carry PRESUMED and are listed in log entry 8. -/

namespace Sys2Proof.Machine

/-- `IDLE`, the idle/fill byte (R8, R92). -/
def idleByte : Byte := 0xFF
/-- `TOKEN_START`, the data-start token (R8, R90). -/
def tokenStart : Byte := 0xFE
/-- `BLOCK_LEN`, the bytes of a data block (R8). -/
def blockLen : Nat := 512
/-- The two marker bits of frame byte 0 (R82). PRESUMED (log entry 8). -/
def markerBits : BitVec 2 := 0b01
/-- The data-accepted pattern of the data-response byte (R91). PRESUMED (log entry 8). -/
def dataAccepted : BitVec 5 := 0b00101

/-- `OPC_GO_IDLE` (R85). -/
def opcGoIdle : BitVec 6 := 0
/-- `OPC_SEND_IF_COND` (R85). -/
def opcSendIfCond : BitVec 6 := 8
/-- `OPC_SEND_CSD` (R85). PRESUMED (log entry 8). -/
def opcSendCsd : BitVec 6 := 9
/-- `OPC_SET_BLOCKLEN` (R85). PRESUMED (log entry 8). -/
def opcSetBlocklen : BitVec 6 := 16
/-- `OPC_READ_SINGLE` (R85). PRESUMED (log entry 8). -/
def opcReadSingle : BitVec 6 := 17
/-- `OPC_WRITE_SINGLE` (R85). PRESUMED (log entry 8). -/
def opcWriteSingle : BitVec 6 := 24
/-- `OPC_SD_SEND_OP_COND` (R85). PRESUMED (log entry 8). -/
def opcSdSendOpCond : BitVec 6 := 41
/-- `OPC_APP_CMD` (R85). PRESUMED (log entry 8). -/
def opcAppCmd : BitVec 6 := 55
/-- `OPC_READ_OCR` (R85). PRESUMED (log entry 8). -/
def opcReadOcr : BitVec 6 := 58

/-- The argument of commands 0, 55, 58 and 9 (R86); for the last three PRESUMED (log entry 8). -/
def argZero : U32 := 0
/-- The argument of command 8 (R86, R144). -/
def argIfCond : U32 := 0x000001AA
/-- The argument of command 41: the host-capacity-supported bit, bit 30 (R86, R145). PRESUMED (log entry 8). -/
def argOpCond : U32 := 0x40000000
/-- The argument of command 16: 512 bytes (R86, R149). PRESUMED (log entry 8). -/
def argBlocklen : U32 := 0x00000200

/-- The default of `T_READY_MS` (R8, R36). -/
def tReadyMsDefault : U32 := 500
/-- The default of `N_R1` (R8, R36). -/
def nR1Default : U32 := 1000
/-- The default of `N_TOKEN` (R8, R36). -/
def nTokenDefault : U32 := 100000
/-- The default of `N_SYNC` (R8, R36). -/
def nSyncDefault : U32 := 10
/-- The low end of the advisory bus-rate range (R186). -/
def baudLow : U32 := 100000
/-- The high end of the advisory bus-rate range (R186). -/
def baudHigh : U32 := 10000000
/-- The data-in pin of the spec's worked example, a valid index (R185). -/
def knownDatainPin : BitVec 8 := 4

end Sys2Proof.Machine
end

