-- ==== Sys2Proof/Machine/Checksum.lean ====
section
/-! DEFINITION. The selection of a frame's check byte (R84, R112), and the default definitions of the two checksum functions
(R113, R166). The controller runs on the parameters `Config.crc7byte` and `Config.crc16` (R12); no step uses a default,
which the words of spec/opcode_table.json and the spec's vectors are made with (log entry 9). -/

namespace Sys2Proof.Machine

/-- One bit of the 7-bit remainder: `x^7 + x^3 + 1`, most significant bit first (R113). -/
def crc7Bit (c : BitVec 7) (bit : Bool) : BitVec 7 :=
  if c.msb != bit then (c <<< 1) ^^^ 0b0001001 else c <<< 1

/-- The remainder over the `n` low bits of `x`, the highest of them first. -/
def crc7Bits (x : BitVec 40) : Nat → BitVec 7 → BitVec 7
  | 0, c => c
  | n + 1, c => crc7Bits x n (crc7Bit c (x.getLsbD n))

/-- The default of `crc7byte`: the remainder in bits 7:1, bit 0 set (R113). PRESUMED (log entry 9). -/
def crc7Default (firstFive : BitVec 40) : Byte :=
  crc7Bits firstFive 40 0 ++ (1 : BitVec 1)

/-- The first five bytes of a frame: marker, opcode and argument (R81). -/
def firstFive (opcode : BitVec 6) (arg : U32) : BitVec 40 :=
  markerBits ++ opcode ++ arg

/-- Whether a frame of this opcode carries a computed check byte: opcodes 0 and 8, whatever the argument (R84, R112). -/
def crcMandatory (opcode : BitVec 6) : Bool :=
  opcode == opcGoIdle || opcode == opcSendIfCond

/-- Frame byte 5 of `ENCODE(opcode, arg)` for a checksum function (R84, R112). -/
def checkByteWith (crc : BitVec 40 → Byte) (opcode : BitVec 6) (arg : U32) : Byte :=
  if crcMandatory opcode then crc (firstFive opcode arg) else idleByte

/-- Frame byte 5 of `ENCODE(opcode, arg)` (R84, R112). -/
def checkByte (opcode : BitVec 6) (arg : U32) : Byte := checkByteWith Config.crc7byte opcode arg

/-- One bit of the 16-bit check value: `x^16 + x^12 + x^5 + 1` (R166). -/
def crc16Bit (c : BitVec 16) : BitVec 16 :=
  if c.msb then (c <<< 1) ^^^ 0x1021 else c <<< 1

/-- `n` bits of the 16-bit check value. -/
def crc16Bits : Nat → BitVec 16 → BitVec 16
  | 0, c => c
  | n + 1, c => crc16Bits n (crc16Bit c)

/-- The 16-bit check value continued from `c` over the bytes (R166). -/
def crc16From (c : BitVec 16) : List Byte → BitVec 16
  | [] => c
  | b :: rest => crc16From (crc16Bits 8 (c ^^^ (b ++ (0 : BitVec 8)))) rest

/-- The default of `crc16`: initial value 0, most significant bit first (R166). PRESUMED (log entry 9). -/
def crc16Default (bytes : List Byte) : BitVec 16 := crc16From 0 bytes

end Sys2Proof.Machine
end

