-- ==== Sys2Proof/Syntax.lean ====
section
/-! DEFINITION. The syntax: one constructor per row of spec/opcode_table.json, with the row's variable bits as fields. -/

namespace Sys2Proof

/-- The encodings of the controller: the four host operation codes written to `CTRL` (R94), the nine command frames it
sends and their general form (R81, R86), and the bytes it recognises or sends on the bus (R87, R90, R91, R92). -/
inductive Instr where
  /-- `CTRL.OP = 0` (R182). -/
  | nop
  /-- `CTRL.OP = 1` (R140). -/
  | init
  /-- `CTRL.OP = 2` (R160). -/
  | read
  /-- `CTRL.OP = 3` (R170). -/
  | write
  /-- Reset to idle state (R143). -/
  | cmd0
  /-- Send interface condition (R144). -/
  | cmd8
  /-- Application command prefix (R145). -/
  | cmd55
  /-- Send operating condition (R145). -/
  | acmd41
  /-- Read operation conditions register (R146). -/
  | cmd58
  /-- Read the card-specific-data register (R147). -/
  | cmd9
  /-- Set block length to 512 (R149). -/
  | cmd16
  /-- Read-single-block, `arg` as R62 forms it (R162). -/
  | cmd17 (arg : U32)
  /-- Write-single-block, `arg` as R62 forms it (R172). -/
  | cmd24 (arg : U32)
  /-- The general form of every frame, `ENCODE(opcode, arg)`; `check` is frame byte 5 (R110). -/
  | encode (opcode : BitVec 6) (arg : U32) (check : Byte)
  /-- A valid R1 response byte: bit 7 clear, `status` in bits 6:0 (R87). -/
  | r1 (status : BitVec 7)
  /-- The data-start token 0xFE (R90). -/
  | dataStart
  /-- A data-response byte with the accepted pattern in bits 4:0; `ignored` is bits 7:5 (R91). -/
  | dataResponseAccepted (ignored : BitVec 3)
  /-- The idle byte 0xFF (R92). -/
  | idle
  deriving DecidableEq, Repr

end Sys2Proof
end

