-- ==== Sys2Proof/WellFormed.lean ====
section
/-! DEFINITION. Well-formedness of an instruction: what its fields' types do not already say. -/

namespace Sys2Proof

/-- Every field but one takes any value of its type. Frame byte 5 of the general form is no free choice: it is the check
byte R112 selects for the opcode and argument. -/
def Instr.wellFormed : Instr → Bool
  | .nop => true
  | .init => true
  | .read => true
  | .write => true
  | .cmd0 => true
  | .cmd8 => true
  | .cmd55 => true
  | .acmd41 => true
  | .cmd58 => true
  | .cmd9 => true
  | .cmd16 => true
  | .cmd17 _ => true
  | .cmd24 _ => true
  | .encode opcode arg check => check == Machine.checkByte opcode arg
  | .r1 _ => true
  | .dataStart => true
  | .dataResponseAccepted _ => true
  | .idle => true

end Sys2Proof
end

