-- ==== Sys2Proof/Decode.lean ====
section
/-! DEFINITION. The decoder and the encoder. What a word means depends on where the controller takes it (a `CTRL` write,
the encoder's operands, the FRAME register, one of its waits), so decoding is by SLOT; it is total and rejects by name. -/

namespace Sys2Proof

open Machine

/-! ## Words and slots -/

/-- A word as the hardware holds it: a value written to `CTRL`, a command frame, or a byte of the bus (R80). -/
inductive CodeWord where
  | ctrl (v : U32)
  | frame (f : Frame)
  | byte (b : Byte)
  deriving DecidableEq, Repr

/-- Where the controller takes a word. -/
inductive Slot where
  /-- A host write to `CTRL` (R94). -/
  | ctrl
  /-- The operands of ENCODE (R110). -/
  | encoder
  /-- The FRAME register at the head of a command phase (R130). -/
  | command
  /-- The byte of a ready poll (R121). -/
  | ready
  /-- The byte of an R1 poll (R122). -/
  | r1
  /-- The byte of a token poll, or the token WRITE sends (R123, R173). -/
  | token
  /-- The data-response byte (R174). -/
  | dataResponse
  /-- The byte of a programming poll (R124). -/
  | programming
  deriving DecidableEq, Repr

/-- Why a word is no instruction of its slot. -/
inductive Reject where
  /-- The two top bits of a frame are not the marker (R82). -/
  | marker
  /-- A frame that carries no checksum and whose last byte is not the fill byte (R84). -/
  | check
  /-- A frame other than the nine the controller sends (R86, R95). -/
  | otherFrame
  /-- A byte with bit 7 set is not an R1 response (R87). -/
  | notR1
  /-- A byte other than 0xFE is no token (R90). -/
  | notToken
  /-- A data-response byte that does not accept (R91). -/
  | notAccepted
  /-- A byte other than 0xFF means busy (R92). -/
  | notIdle
  /-- The word has not the width of the slot (R80). -/
  | width
  deriving DecidableEq, Repr

/-! ## Frames -/

/-- A frame from its four fields (R81). -/
def packFrame (opcode : BitVec 6) (arg : U32) (check : Byte) : Frame :=
  markerBits ++ opcode ++ arg ++ check

/-- Frame byte 0, bits 7:6. -/
def frameMarker (f : Frame) : BitVec 2 := f.extractLsb' 46 2
/-- Frame byte 0, bits 5:0 (R82). -/
def frameOpcode (f : Frame) : BitVec 6 := f.extractLsb' 40 6
/-- Frame bytes 1 to 4, most significant byte first (R83). -/
def frameArg (f : Frame) : U32 := f.extractLsb' 8 32
/-- Frame byte 5 (R84). -/
def frameCheck (f : Frame) : Byte := f.extractLsb' 0 8

/-- Frame byte `k`, in the order of sending (R81). -/
def frameByte (f : Frame) (k : Fin 6) : Byte := f.extractLsb' (40 - 8 * k.val) 8

/-- `ENCODE(opcode, arg)` as a frame, for a checksum function (R110). -/
def encodeFrameWith (crc : BitVec 40 → Byte) (opcode : BitVec 6) (arg : U32) : Frame :=
  packFrame opcode arg (checkByteWith crc opcode arg)

/-- `ENCODE(opcode, arg)` as a frame (R110). -/
def encodeFrame (opcode : BitVec 6) (arg : U32) : Frame := encodeFrameWith Config.crc7byte opcode arg

/-- The command a frame's opcode and argument name, if it is one of the nine (R86). -/
def commandOf (opcode : BitVec 6) (arg : U32) : Except Reject Instr :=
  if opcode = opcReadSingle then .ok (.cmd17 arg)
  else if opcode = opcWriteSingle then .ok (.cmd24 arg)
  else if opcode = opcGoIdle ∧ arg = argZero then .ok .cmd0
  else if opcode = opcSendIfCond ∧ arg = argIfCond then .ok .cmd8
  else if opcode = opcAppCmd ∧ arg = argZero then .ok .cmd55
  else if opcode = opcSdSendOpCond ∧ arg = argOpCond then .ok .acmd41
  else if opcode = opcReadOcr ∧ arg = argZero then .ok .cmd58
  else if opcode = opcSendCsd ∧ arg = argZero then .ok .cmd9
  else if opcode = opcSetBlocklen ∧ arg = argBlocklen then .ok .cmd16
  else .error .otherFrame

/-- The frame in the FRAME register, as one of the nine commands (R86). The last byte of a frame that carries a checksum is
whatever `crc7byte` gave; it is generated and never checked (R195). -/
def decodeCommand (f : Frame) : Except Reject Instr :=
  if frameMarker f = markerBits then
    if crcMandatory (frameOpcode f) || frameCheck f == idleByte then commandOf (frameOpcode f) (frameArg f)
    else .error .check
  else .error .marker

/-- A frame as the general form: any opcode, any argument (R110). A wrong check byte is kept and makes the instruction
ill-formed. -/
def decodeEncoder (f : Frame) : Except Reject Instr :=
  if frameMarker f = markerBits then .ok (.encode (frameOpcode f) (frameArg f) (frameCheck f)) else .error .marker

/-! ## Operation codes and bytes -/

/-- `CTRL.OP`, bits 1:0 of the written value; bits 31:2 are ignored (R94, R95). -/
def decodeCtrl (v : U32) : Instr :=
  if v.extractLsb' 0 2 = 0 then .nop
  else if v.extractLsb' 0 2 = 1 then .init
  else if v.extractLsb' 0 2 = 2 then .read
  else .write

/-- A valid R1 response has bit 7 clear (R87). -/
def decodeR1 (b : Byte) : Except Reject Instr :=
  if b.msb then .error .notR1 else .ok (.r1 (b.extractLsb' 0 7))

/-- The data-start token is 0xFE exactly (R90). -/
def decodeToken (b : Byte) : Except Reject Instr :=
  if b = tokenStart then .ok .dataStart else .error .notToken

/-- The data-response byte accepts by its low five bits (R91). -/
def decodeDataResponse (b : Byte) : Except Reject Instr :=
  if b.extractLsb' 0 5 = dataAccepted then .ok (.dataResponseAccepted (b.extractLsb' 5 3)) else .error .notAccepted

/-- 0xFF means ready, or programming complete (R92). -/
def decodeIdle (b : Byte) : Except Reject Instr :=
  if b = idleByte then .ok .idle else .error .notIdle

/-! ## Decoding and encoding -/

/-- The instruction a word is in a slot. -/
def decode : Slot → CodeWord → Except Reject Instr
  | .ctrl, .ctrl v => .ok (decodeCtrl v)
  | .encoder, .frame f => decodeEncoder f
  | .command, .frame f => decodeCommand f
  | .ready, .byte b => decodeIdle b
  | .r1, .byte b => decodeR1 b
  | .token, .byte b => decodeToken b
  | .dataResponse, .byte b => decodeDataResponse b
  | .programming, .byte b => decodeIdle b
  | .ctrl, .frame _ => .error .width
  | .ctrl, .byte _ => .error .width
  | .encoder, .ctrl _ => .error .width
  | .encoder, .byte _ => .error .width
  | .command, .ctrl _ => .error .width
  | .command, .byte _ => .error .width
  | .ready, .ctrl _ => .error .width
  | .ready, .frame _ => .error .width
  | .r1, .ctrl _ => .error .width
  | .r1, .frame _ => .error .width
  | .token, .ctrl _ => .error .width
  | .token, .frame _ => .error .width
  | .dataResponse, .ctrl _ => .error .width
  | .dataResponse, .frame _ => .error .width
  | .programming, .ctrl _ => .error .width
  | .programming, .frame _ => .error .width

/-- The slots that take an instruction. The idle byte has two, the ready and the programming poll. -/
def Instr.slots : Instr → List Slot
  | .nop => [.ctrl]
  | .init => [.ctrl]
  | .read => [.ctrl]
  | .write => [.ctrl]
  | .cmd0 => [.command]
  | .cmd8 => [.command]
  | .cmd55 => [.command]
  | .acmd41 => [.command]
  | .cmd58 => [.command]
  | .cmd9 => [.command]
  | .cmd16 => [.command]
  | .cmd17 _ => [.command]
  | .cmd24 _ => [.command]
  | .encode _ _ _ => [.encoder]
  | .r1 _ => [.r1]
  | .dataStart => [.token]
  | .dataResponseAccepted _ => [.dataResponse]
  | .idle => [.ready, .programming]

/-- The word of an instruction (R81, R86, R87, R90 to R92, R94); the ignored bits of a `CTRL` write are zero. -/
def encode : Instr → CodeWord
  | .nop => .ctrl 0
  | .init => .ctrl 1
  | .read => .ctrl 2
  | .write => .ctrl 3
  | .cmd0 => .frame (encodeFrame opcGoIdle argZero)
  | .cmd8 => .frame (encodeFrame opcSendIfCond argIfCond)
  | .cmd55 => .frame (encodeFrame opcAppCmd argZero)
  | .acmd41 => .frame (encodeFrame opcSdSendOpCond argOpCond)
  | .cmd58 => .frame (encodeFrame opcReadOcr argZero)
  | .cmd9 => .frame (encodeFrame opcSendCsd argZero)
  | .cmd16 => .frame (encodeFrame opcSetBlocklen argBlocklen)
  | .cmd17 arg => .frame (encodeFrame opcReadSingle arg)
  | .cmd24 arg => .frame (encodeFrame opcWriteSingle arg)
  | .encode opcode arg check => .frame (packFrame opcode arg check)
  | .r1 status => .byte ((0 : BitVec 1) ++ status)
  | .dataStart => .byte tokenStart
  | .dataResponseAccepted ignored => .byte (ignored ++ dataAccepted)
  | .idle => .byte idleByte

/-! ## Rows of the opcode table -/

/-- A row's word from its width and value, as spec/opcode_table.json numbers the bits. -/
def tableWord (nbits w : Nat) : Option CodeWord :=
  if nbits = 32 then some (.ctrl (BitVec.ofNat 32 w))
  else if nbits = 48 then some (.frame (BitVec.ofNat 48 w))
  else if nbits = 8 then some (.byte (BitVec.ofNat 8 w))
  else none

/-- Whether a frame ends in the check byte a row of the table has, which is that of the default checksum (R86). -/
def hasTableCheck (f : Frame) : Bool := frameCheck f == checkByteWith crc7Default (frameOpcode f) (frameArg f)

/-- The slots tried for a table word, the one whose row fixes most bits first (log entry 10). -/
def slotOrder : CodeWord → List Slot
  | .ctrl _ => [.ctrl]
  | .frame f => if hasTableCheck f then [.command, .encoder] else [.encoder]
  | .byte _ => [.token, .ready, .dataResponse, .r1]

/-- The first slot of a list that takes the word, with the instruction it takes it for. -/
def firstSlot (word : CodeWord) : List Slot → Option (Slot × Instr)
  | [] => none
  | slot :: rest =>
    match decode slot word with
    | .ok i => some (slot, i)
    | .error _ => firstSlot word rest

/-- The slot and instruction of a word of the opcode table. -/
def tableSlot (nbits w : Nat) : Option (CodeWord × Slot × Instr) :=
  match tableWord nbits w with
  | none => none
  | some word => (firstSlot word (slotOrder word)).map (fun p => (word, p))

/-- The instruction of a word of the opcode table. -/
def decodeTableWord (nbits w : Nat) : Option Instr :=
  (tableSlot nbits w).map (fun p => p.2.2)

end Sys2Proof
end

