-- ==== Sys2Proof/Machine/State.lean ====
section
/-! DEFINITION. The state of the controller as plain data, its environment's pending inputs, the reset state, and the
reasons a step can stop. INVENTORY.md lists every field with the rule that names it. -/

namespace Sys2Proof.Machine

/-! ## Enumerations -/

/-- The closed error set (R190). `OK` is `none` of `Option ErrorKind`. -/
inductive ErrorKind where
  | commandRejected
  | tokenTimeout
  | inconsistent
  | crcMismatch
  | rangeError
  | writeRejected
  | busyTimeout
  | timeout
  deriving DecidableEq, Repr

/-- The phases of R24. -/
inductive Phase where
  | idle
  | iPrep
  | iSync
  | iReset
  | iIfCond
  | iAppCmd
  | iOpCond
  | iOcr
  | iCsd
  | iSetBlk
  | iBaud
  | commandSent
  | r1Received
  | tokenWait
  | transfer
  | crcCheck
  | tokenSent
  | responseCheck
  | programWait
  | done
  | failed
  deriving DecidableEq, Repr

/-- The host operations, `CTRL.OP` 0 to 3 (R94, R180). -/
inductive HostOp where
  | nop
  | init
  | read
  | write
  deriving DecidableEq, Repr

/-- The nine commands of R86: which of them a listing has called is the caller to which its command phase returns. -/
inductive Command where
  | cmd0
  | cmd8
  | cmd55
  | acmd41
  | cmd58
  | cmd9
  | cmd16
  | cmd17
  | cmd24
  deriving DecidableEq, Repr

/-- Where the controller stands in the listings of R121 to R124, R130 to R132, R152, R160 and R170: the point from which
the next step goes on. The spec has no name for it (its `phase` is coarser); log entry 11. -/
inductive Ctl where
  /-- No operation in flight. -/
  | idle
  /-- INIT step 0: `SET_BAUD(INIT_BAUD_HZ)`. -/
  | initBaud
  /-- INIT step 1: `sent` idle bytes are out. -/
  | sync (sent : U32)
  /-- INIT step 4: `t0_init <- NOW()`. -/
  | initTime
  /-- `ENCODE(opcode, arg)`. -/
  | encode (opcode : BitVec 6) (arg : U32)
  /-- Head of CMD_PHASE: FRAME is ready. -/
  | command
  /-- WAIT_READY: `t0 <- NOW()`. -/
  | readyTime
  /-- WAIT_READY: the exchange. -/
  | readyPoll
  /-- WAIT_READY: the time test. -/
  | readyTest
  /-- CMD_PHASE: send `FRAME[k]`. -/
  | frame (k : Fin 6)
  /-- CMD_PHASE: the flush byte after the frame. -/
  | frameFlush
  /-- WAIT_R1: the loop. -/
  | waitR1
  /-- CMD_PHASE has returned `r1`; the caller goes on. -/
  | afterR1
  /-- READ and WRITE, in phase `R1_RECEIVED`: the test of `r1`. -/
  | r1Test
  /-- EXECUTE: receive reply byte `k`. -/
  | reply (k : Fin 4)
  /-- WAIT_TOKEN: the loop. -/
  | waitToken
  /-- INIT step 6: receive CSD byte `k`. -/
  | csd (k : Fin 16)
  /-- INIT step 6: receive check byte `k`. -/
  | csdCheck (k : Fin 2)
  /-- READ: the transport fixes `burst_count`. -/
  | burst
  /-- READ: receive payload byte `k`. -/
  | payloadIn (k : BitVec 10)
  /-- READ: receive the high check byte. -/
  | checkInHi
  /-- READ: receive the low check byte. -/
  | checkInLo
  /-- READ: the two integrity tests. -/
  | crcCheck
  /-- WRITE: send the data-start token. -/
  | token
  /-- WRITE: send payload byte `k`. -/
  | payloadOut (k : BitVec 9)
  /-- WRITE: send the high check byte. -/
  | checkOutHi
  /-- WRITE: send the low check byte. -/
  | checkOutLo
  /-- WRITE: receive the data-response byte. -/
  | response
  /-- WAIT_PROG: the loop. -/
  | waitProg
  /-- RELEASE: deassert chip-select; `e` is the error raised after it, if any. -/
  | release (e : Option ErrorKind)
  /-- RELEASE: the flush byte. -/
  | flush (e : Option ErrorKind)
  /-- INIT step 4: the time test. -/
  | budget
  /-- INIT step 8: `SET_BAUD(BAUD_HZ)`. -/
  | raiseBaud
  /-- INIT step 8: commit the descriptor. -/
  | commit
  deriving DecidableEq, Repr

/-- The events of a trace (R7). -/
inductive BusEvent where
  | csAssert
  | csDeassert
  | xchg (tx rx : Byte)
  | setBaud (hz : U32)
  | now (t : U32)
  deriving DecidableEq, Repr

/-- The four actions of the host port (R21); a buffer index is 0 to 511 by its width. -/
inductive HostAction where
  | regWrite (i : Nat) (v : U32)
  | regRead (i : Nat)
  | bufWrite (k : BitVec 9) (v : Byte)
  | bufRead (k : BitVec 9)
  deriving DecidableEq, Repr

/-- What the world outside does next, in order (log entry 12). Where the list is empty the controller goes on. -/
inductive Input where
  /-- A host action, between two bus events (R21). -/
  | host (a : HostAction)
  /-- `poll` of R96: `RegRead(STATUS)` repeated until `DONE = 1`; between two reads the controller takes a step. -/
  | poll
  /-- The controller takes a step. -/
  | turn
  /-- `rst` is asserted (R38, R220). -/
  | reset
  /-- From here on the transport completes no exchange, until a reset (R236). -/
  | hang
  deriving DecidableEq, Repr

/-! ## Records -/

/-- The Card Descriptor (R29). -/
structure Descriptor where
  isHc : Bool
  csdVer : BitVec 2
  sizefield : U32
  blockcount : U32
  bytesize : U32
  deriving DecidableEq, Repr

/-- The descriptor of a controller that has not completed INIT (R29). -/
def Descriptor.zero : Descriptor := ⟨false, 0, 0, 0, 0⟩

/-- `BUF` as the bytes written since reset, addresses strictly rising (R31). -/
abbrev Memory := List Host.Cell

/-- The state. -/
structure State where
  /- Host registers (R22, R27, R28) -/
  blkaddr : U32
  rcrc : BitVec 16
  baudHz : U32
  tReadyMs : U32
  nR1 : U32
  nToken : U32
  nProg : U32
  tInitMs : U32
  nSync : U32
  datainPin : BitVec 8
  /- Status (R24 to R26) -/
  busy : Bool
  done : Bool
  err : Bool
  inited : Bool
  errcode : Option ErrorKind
  phase : Phase
  /- The Card Descriptor (R29) -/
  cd : Descriptor
  /- Bus side (R30) -/
  cs : Bool
  curBaud : U32
  /- Buffers (R31, R32) -/
  buf : Memory
  frame : Frame
  /- Diagnostics (R33) -/
  lastR1 : Byte
  lastRx : Byte
  failPhase : Phase
  diagIfcond : U32
  diagOcr : U32
  diagCsd : BitVec 128
  /- Hidden state (R34) -/
  curOp : HostOp
  curBlk : U32
  cnt : U32
  t0 : U32
  t0Init : U32
  burstCount : BitVec 10
  wireCrc : BitVec 16
  w : Descriptor
  r1 : Byte
  /- Place in the listings, and their variables `rep` and `csd` (R152; log entry 11) -/
  ctl : Ctl
  cmd : Command
  rep : U32
  csd : BitVec 128
  /- The host's side of the port: the value last read (R21, R37; log entry 12) -/
  rdata : U32
  /- The environment: what it does and answers next, how many draws there were, whether the transport has stalled, how many
  resets there were, and the trace since the last one, newest event first (R6, R7, R236; log entries 2, 3, 4 and 12) -/
  inputs : List Input
  rxQueue : List Byte
  timeQueue : List U32
  burstQueue : List (BitVec 10)
  draws : Nat
  stalled : Bool
  resets : Nat
  trace : List BusEvent
  deriving DecidableEq, Repr

/-- Why the machine stops. -/
inductive Fault where
  /-- Raised by a step of the controller that needs an exchange of a stalled transport (R236): it is stuck inside that
  exchange. Safe: R236 gives the controller no step there. -/
  | transportHung
  deriving DecidableEq, Repr

/-- Why an instruction has no meaning. -/
inductive Refusal where
  /-- Raised by an arm of `exec` whose instruction has no meaning yet; there is none. Safe. -/
  | notModelled (mnemonic : String)
  deriving DecidableEq, Repr

/-- The machine right after reset (R36, R220). The OPEN parameters and the two unspecified values are constants of Config
with no body (log entries 1, 6 and 7); the values R36 grounds on decision D29 are the spec's own table; the fields the
spec does not name start as log entry 15 says. -/
def State.reset : State where
  blkaddr := 0
  rcrc := 0
  baudHz := Config.defaultBaudHz
  tReadyMs := tReadyMsDefault
  nR1 := nR1Default
  nToken := nTokenDefault
  nProg := Config.nProgDefault
  tInitMs := Config.tInitMsDefault
  nSync := nSyncDefault
  datainPin := Config.datainPinDefault
  busy := false
  done := false
  err := false
  inited := false
  errcode := none
  phase := .idle
  cd := Descriptor.zero
  cs := false
  curBaud := Config.freeBaud 0
  buf := []
  frame := 0
  lastR1 := 0
  lastRx := 0
  failPhase := .idle
  diagIfcond := 0
  diagOcr := 0
  diagCsd := 0
  curOp := .nop
  curBlk := 0
  cnt := 0
  t0 := 0
  t0Init := 0
  burstCount := 0
  wireCrc := 0
  w := Descriptor.zero
  r1 := 0
  ctl := .idle
  cmd := .cmd0
  rep := 0
  csd := 0
  rdata := 0
  inputs := []
  rxQueue := []
  timeQueue := []
  burstQueue := []
  draws := 0
  stalled := false
  resets := 0
  trace := []

end Sys2Proof.Machine
end

