-- ==== Sys2Proof/Machine/Ops.lean ====
section
/-! DEFINITION. The shared operations: the buffer memory, the primitives of R10 on bus and time source, and the two ends
of an operation, COMPLETION (R183) and the failure exit (R196). -/

namespace Sys2Proof.Machine

/-! ## The buffer memory (R31, R75) -/

/-- The byte a memory lists at an address, if any. -/
def Memory.get : Memory → Nat → Option Byte
  | [], _ => none
  | (k, v) :: rest, a => if a = k then some v else Memory.get rest a

/-- The memory with one byte written, addresses kept strictly rising. -/
def Memory.set : Memory → Nat → Byte → Memory
  | [], a, b => [(a, b)]
  | (k, v) :: rest, a, b =>
    if a < k then (a, b) :: (k, v) :: rest
    else if a = k then (k, b) :: rest
    else (k, v) :: Memory.set rest a b

/-- Every listed address is at least `low` and below 512, and they rise strictly. -/
def Memory.wfFrom : Nat → Memory → Bool
  | _, [] => true
  | low, (k, _) :: rest => decide (low ≤ k) && decide (k < blockLen) && Memory.wfFrom (k + 1) rest

/-- The canonical form: addresses strictly rising, all in 0 to 511. An unlisted address holds no value of the memory's
own, so no entry can equal what it reads as (log entry 6). -/
def Memory.wf (m : Memory) : Bool := Memory.wfFrom 0 m

/-- `BUF[k]`: the byte written there since reset, else the unspecified byte reset left there (R36). -/
def bufByte (s : State) (k : BitVec 9) : Byte :=
  match Memory.get s.buf k.toNat with
  | some v => v
  | none => Config.freeBuf s.resets k

/-- `BUF[k] <- v`. -/
def setBufByte (s : State) (k : BitVec 9) (v : Byte) : State :=
  { s with buf := Memory.set s.buf k.toNat v }

/-- `BUF[0..511]`, in order. -/
def bufBytes (s : State) : List Byte :=
  (List.range blockLen).map (fun k => bufByte s (BitVec.ofNat 9 k))

/-! ## The environment's answers (R6) -/

/-- The byte the card answers next. -/
def rxNext (s : State) : Byte :=
  match s.rxQueue with
  | b :: _ => b
  | [] => Config.freeRx s.draws

/-- The reading the time source answers next. -/
def timeNext (s : State) : U32 :=
  match s.timeQueue with
  | t :: _ => t
  | [] => Config.freeTime s.draws

/-- The count of a burst the transport reports next. -/
def burstNext (s : State) : BitVec 10 :=
  match s.burstQueue with
  | n :: _ => n
  | [] => Config.freeBurst s.draws

/-! ## The primitives of R10 -/

/-- `XCHG(tx)`: the received byte is `rxNext s`, which the state after it holds in `lastRx` (R10, R33; the one exception is
the flush byte after `WriteRejected`, `flushFailure`, DESIGN CHOICE, log entry 18). -/
def exchange (tx : Byte) (s : State) : State :=
  { s with
    lastRx := rxNext s
    rxQueue := s.rxQueue.tail
    draws := s.draws + 1
    trace := .xchg tx (rxNext s) :: s.trace }

/-- `NOW()`: the reading is `timeNext s` (R10, R210). -/
def sampleTime (s : State) : State :=
  { s with
    timeQueue := s.timeQueue.tail
    draws := s.draws + 1
    trace := .now (timeNext s) :: s.trace }

/-- `elapsed(t0)` for the reading `t` (R10, R210). -/
def elapsed (t t0 : U32) : U32 := t - t0

/-- `CS_ASSERT()` (R10, R30). -/
def csAssert (s : State) : State := { s with cs := true, trace := .csAssert :: s.trace }

/-- `CS_DEASSERT()` (R10, R30). -/
def csDeassert (s : State) : State := { s with cs := false, trace := .csDeassert :: s.trace }

/-- `SET_BAUD(hz)` (R10, R30). -/
def setBaud (hz : U32) (s : State) : State := { s with curBaud := hz, trace := .setBaud hz :: s.trace }

/-- The count a burst delivers: 512 unless the transport can fall short (R163). -/
def burstDelivered (n : BitVec 10) : BitVec 10 :=
  if n = 512 then 512
  else if Config.shortReadPossible then (if n ≤ 512 then n else 512)
  else 512

/-- The transport fixes the count of a burst (`BURST_READ`, R10, R163). -/
def drawBurst (s : State) : State :=
  { s with
    burstCount := burstDelivered (burstNext s)
    burstQueue := s.burstQueue.tail
    draws := s.draws + 1 }

/-- One more byte of a reply, in order of arrival (R64). -/
def pushByte {n : Nat} (x : BitVec n) (b : Byte) : BitVec n := (x <<< 8) ||| b.setWidth n

/-- A listing calls CMD_PHASE or EXECUTE on `ENCODE(opcode, arg)`; ENCODE runs next (R152, R160, R170). -/
def callCommand (c : Command) (opcode : BitVec 6) (arg : U32) (s : State) : State :=
  { s with cmd := c, ctl := .encode opcode arg }

/-! ## The ends of an operation -/

/-- COMPLETION (R183), of `OK` for `none`. On failure `FAIL_PHASE` takes the phase the error was raised in (R33). -/
def complete (e : Option ErrorKind) (s : State) : State :=
  { s with
    errcode := e
    err := e.isSome
    done := true
    busy := false
    phase := if e.isSome then .failed else .done
    failPhase := if e.isSome then s.phase else s.failPhase
    ctl := .idle }

/-- The failure exit (R196): RELEASE first where chip-select is asserted, then COMPLETION with the code. -/
def raise (e : ErrorKind) (s : State) : State :=
  if s.cs then { s with ctl := .release (some e) } else complete (some e) s

/-- The return to work after an operation is the next START: it clears `DONE`, `ERR` and `ERRCODE` and sets `BUSY`
(R181, R203). -/
def latchStart (op : HostOp) (s : State) : State :=
  { s with curOp := op, done := false, err := false, errcode := none, busy := true }

end Sys2Proof.Machine
end

