-- ==== Sys2Proof/Machine/Flags.lean ====
section
/-! DEFINITION. The flags and codes the host reads: phase codes (R24), error codes (R191), the combinational flags of
R185 and R186, and the words of `STATUS`, `DIAG` and `CD_FLAGS` (R22, R25). -/

namespace Sys2Proof.Machine

/-- The numeric code of a phase (R24). -/
def Phase.code : Phase → BitVec 8
  | .idle => 0
  | .iPrep => 1
  | .iSync => 2
  | .iReset => 3
  | .iIfCond => 4
  | .iAppCmd => 5
  | .iOpCond => 6
  | .iOcr => 7
  | .iCsd => 8
  | .iSetBlk => 9
  | .iBaud => 10
  | .commandSent => 16
  | .r1Received => 17
  | .tokenWait => 18
  | .transfer => 19
  | .crcCheck => 20
  | .tokenSent => 21
  | .responseCheck => 22
  | .programWait => 23
  | .done => 24
  | .failed => 25

/-- The phases in which no operation is in flight (R25, bit 0). -/
def Phase.resting : Phase → Bool
  | .idle => true
  | .done => true
  | .failed => true
  | .iPrep => false
  | .iSync => false
  | .iReset => false
  | .iIfCond => false
  | .iAppCmd => false
  | .iOpCond => false
  | .iOcr => false
  | .iCsd => false
  | .iSetBlk => false
  | .iBaud => false
  | .commandSent => false
  | .r1Received => false
  | .tokenWait => false
  | .transfer => false
  | .crcCheck => false
  | .tokenSent => false
  | .responseCheck => false
  | .programWait => false

/-- The code of an error kind (R191). -/
def ErrorKind.code : ErrorKind → BitVec 4
  | .commandRejected => 1
  | .tokenTimeout => 2
  | .inconsistent => 3
  | .crcMismatch => 4
  | .rangeError => 5
  | .writeRejected => 6
  | .busyTimeout => 7
  | .timeout => 8

/-- `ERRCODE.CODE` (R26, R191). -/
def errCode : Option ErrorKind → BitVec 4
  | none => 0
  | some e => e.code

/-- Whether `DIAG.LAST_RX` keeps a byte of the failed operation over the flush byte of its RELEASE: the data-response byte (U8,
R191; log entry 18). -/
def ErrorKind.recordsRx : ErrorKind → Bool
  | .commandRejected => false
  | .tokenTimeout => false
  | .inconsistent => false
  | .crcMismatch => false
  | .rangeError => false
  | .writeRejected => true
  | .busyTimeout => false
  | .timeout => false

/-- Membership in `VALID_DATAIN_PINS`: pin 4, and whatever else the build allows (R185; log entry 1). -/
def validDatainPin (pin : BitVec 8) : Bool := pin == knownDatainPin || Config.otherDatainPin pin

/-- `STATUS.PINERR` (R185). -/
def pinErr (s : State) : Bool := !validDatainPin s.datainPin

/-- `STATUS.BAUDWARN` (R186). -/
def baudWarn (s : State) : Bool := decide (s.baudHz < baudLow) || decide (baudHigh < s.baudHz)

/-- One flag as a bit. -/
def flagBit (b : Bool) : BitVec 1 := if b then 1 else 0

/-- `STATUS` (R22, R25). -/
def statusWord (s : State) : U32 :=
  (0 : BitVec 16) ++ s.phase.code ++ (0 : BitVec 1) ++ flagBit s.cs ++ flagBit (baudWarn s) ++ flagBit (pinErr s)
    ++ flagBit s.inited ++ flagBit s.err ++ flagBit s.done ++ flagBit s.busy

/-- `DIAG` (R22, R33). -/
def diagWord (s : State) : U32 := (0 : BitVec 8) ++ s.failPhase.code ++ s.lastRx ++ s.lastR1

/-- `CD_FLAGS` (R22, R29). -/
def cdFlagsWord (s : State) : U32 := (0 : BitVec 29) ++ s.cd.csdVer ++ flagBit s.cd.isHc

end Sys2Proof.Machine
end

