-- ==== Sys2Proof/Machine/Operands.lean ====
section
/-! DEFINITION. The operands: the block number and its command argument (R62, R63), the pin group (R185), and the host
register file as it is read and written (R22, R27). -/

namespace Sys2Proof.Machine

/-! ## Block numbers -/

/-- The range check `cur_blk < CD_BLOCKCOUNT`, unsigned (R63). -/
def inRange (s : State) : Bool := decide (s.curBlk < s.cd.blockcount)

/-- The argument of the block commands: the block number, or 512 times it modulo 2^32 on a card that is not
high-capacity (R62). -/
def blockArg (s : State) : U32 := if s.cd.isHc then s.curBlk else s.curBlk * 512

/-! ## Pins -/

/-- `PINS`: the four pin numbers by fixed offset, each modulo 256 (BUILD_CONFIG, R185). -/
def pinsWord (s : State) : U32 :=
  (s.datainPin + 3) ++ (s.datainPin + 2) ++ (s.datainPin + 1) ++ s.datainPin

/-! ## The host register file -/

/-- The registers of R22 by name; `diagCsd j` is `DIAG_CSDj`. -/
inductive HostReg where
  | ctrl
  | status
  | errcode
  | blkaddr
  | rcrc
  | baudHz
  | cdFlags
  | cdSizefield
  | cdBlockcount
  | cdBytesize
  | tReadyMs
  | nR1
  | nToken
  | nProg
  | tInitMs
  | nSync
  | diag
  | diagIfcond
  | diagOcr
  | datainPin
  | pins
  | diagCsd (j : Fin 4)
  deriving DecidableEq, Repr

/-- The register of a number; 25 and above name none (R22). -/
def hostReg : Nat → Option HostReg
  | 0 => some .ctrl
  | 1 => some .status
  | 2 => some .errcode
  | 3 => some .blkaddr
  | 4 => some .rcrc
  | 5 => some .baudHz
  | 6 => some .cdFlags
  | 7 => some .cdSizefield
  | 8 => some .cdBlockcount
  | 9 => some .cdBytesize
  | 10 => some .tReadyMs
  | 11 => some .nR1
  | 12 => some .nToken
  | 13 => some .nProg
  | 14 => some .tInitMs
  | 15 => some .nSync
  | 16 => some .diag
  | 17 => some .diagIfcond
  | 18 => some .diagOcr
  | 19 => some .datainPin
  | 20 => some .pins
  | 21 => some (.diagCsd 0)
  | 22 => some (.diagCsd 1)
  | 23 => some (.diagCsd 2)
  | 24 => some (.diagCsd 3)
  | _ => none

/-- The value a register reads as; `CTRL` is write-only and reads zero (R22). -/
def readHostReg (r : HostReg) (s : State) : U32 :=
  match r with
  | .ctrl => 0
  | .status => statusWord s
  | .errcode => (errCode s.errcode).setWidth 32
  | .blkaddr => s.blkaddr
  | .rcrc => s.rcrc.setWidth 32
  | .baudHz => s.baudHz
  | .cdFlags => cdFlagsWord s
  | .cdSizefield => s.cd.sizefield
  | .cdBlockcount => s.cd.blockcount
  | .cdBytesize => s.cd.bytesize
  | .tReadyMs => s.tReadyMs
  | .nR1 => s.nR1
  | .nToken => s.nToken
  | .nProg => s.nProg
  | .tInitMs => s.tInitMs
  | .nSync => s.nSync
  | .diag => diagWord s
  | .diagIfcond => s.diagIfcond
  | .diagOcr => s.diagOcr
  | .datainPin => s.datainPin.setWidth 32
  | .pins => pinsWord s
  | .diagCsd j => s.diagCsd.extractLsb' (96 - 32 * j.val) 32

/-- `RegRead(i)`: numbers that name no register read zero (R22). -/
def regRead (i : Nat) (s : State) : U32 :=
  match hostReg i with
  | some r => readHostReg r s
  | none => 0

/-- The effect of a write to an RW register; a write to any other register but `CTRL` is ignored (R22, R27). A write to
`CTRL` starts an operation and is no register write: `hostTurn` takes it. -/
def storeHostReg (r : HostReg) (v : U32) (s : State) : State :=
  match r with
  | .blkaddr => { s with blkaddr := v }
  | .baudHz => { s with baudHz := v }
  | .tReadyMs => { s with tReadyMs := v }
  | .nR1 => { s with nR1 := v }
  | .nToken => { s with nToken := v }
  | .nProg => { s with nProg := v }
  | .tInitMs => { s with tInitMs := v }
  | .nSync => { s with nSync := v }
  | .datainPin => { s with datainPin := v.setWidth 8 }
  | .ctrl => s
  | .status => s
  | .errcode => s
  | .rcrc => s
  | .cdFlags => s
  | .cdSizefield => s
  | .cdBlockcount => s
  | .cdBytesize => s
  | .diag => s
  | .diagIfcond => s
  | .diagOcr => s
  | .pins => s
  | .diagCsd _ => s

/-- A host write to a register: ignored while `BUSY = 1` (R22, R27). -/
def writeHostReg (r : HostReg) (v : U32) (s : State) : State :=
  if s.busy then s else storeHostReg r v s

/-- `BufWrite(k, v)`: ignored while `BUSY = 1` (R31, R75). -/
def bufWrite (k : BitVec 9) (v : Byte) (s : State) : State :=
  if s.busy then s else setBufByte s k v

/-- The byte of `BufRead(k)`: unspecified while `BUSY = 1` (R31, R75; log entry 5). -/
def bufReadValue (k : BitVec 9) (s : State) : Byte :=
  if s.busy then Config.freeBufRead s.draws else bufByte s k

end Sys2Proof.Machine
end

