-- ==== Sys2Proof/Machine/Waiter.lean ====
section
/-! DEFINITION. The Response Waiter: the four polling loops, one step of each at a time (R120 to R124). What ends a loop
with success is an instruction (an idle byte, an R1 byte, a token); what does not is here. -/

namespace Sys2Proof.Machine

/-! ## WAIT_READY (R121) -/

/-- `t0 <- NOW()`, once, at the start of the wait. -/
def startReady (s : State) : State := { sampleTime s with t0 := timeNext s, ctl := .readyPoll }

/-- The exchange of an iteration. -/
def pollReady (s : State) : State := exchange idleByte s

/-- The byte was not idle: the time is tested next. -/
def readyBusy (s : State) : State := { s with ctl := .readyTest }

/-- `NOT_READY`: CMD_PHASE releases and returns `(0xFF, BusyTimeout)`, which its caller raises (R130, R134). -/
def notReady (s : State) : State := raise .busyTimeout { s with r1 := 0xFF }

/-- The time test: `NOT_READY` past the bound, else the next iteration. -/
def testReady (s : State) : State :=
  if s.tReadyMs ≤ elapsed (timeNext s) s.t0 then notReady (sampleTime s)
  else { sampleTime s with ctl := .readyPoll }

/-! ## WAIT_R1 (R122) -/

/-- Entry: `r1 <- 0xFF ; cnt <- 0`. -/
def startR1 (s : State) : State := { s with r1 := 0xFF, cnt := 0, ctl := .waitR1 }

/-- An iteration: `r1 <- XCHG(0xFF) ; cnt <- cnt + 1`. -/
def pollR1 (s : State) : State := { exchange idleByte s with r1 := rxNext s, cnt := s.cnt + 1 }

/-- The end of the wait: `DIAG.LAST_R1 <- r1`. -/
def endR1 (s : State) : State := { s with lastR1 := s.r1, ctl := .afterR1 }

/-! ## WAIT_TOKEN and WAIT_PROG (R123, R124) -/

/-- Entry of WAIT_TOKEN: `cnt <- 0`. -/
def startToken (s : State) : State := { s with cnt := 0, ctl := .waitToken }

/-- Entry of WAIT_PROG: `cnt <- 0`. -/
def startProg (s : State) : State := { s with cnt := 0, ctl := .waitProg }

/-- An iteration of either: `rx <- XCHG(0xFF) ; cnt <- cnt + 1`. -/
def pollCounted (s : State) : State := { exchange idleByte s with cnt := s.cnt + 1 }

end Sys2Proof.Machine
end

