-- ==== Sys2Proof/Machine/BlockRead.lean ====
section
/-! DEFINITION. The Block Reader: READ outside its command phase (R160 to R168). -/

namespace Sys2Proof.Machine

/-- The head of READ and WRITE: sample the block number, check the range before any bus event, form the argument (R160,
R161, R170, R171). The range failure asserts and releases nothing. -/
def beginTransfer (c : Command) (opcode : BitVec 6) (s : State) : State :=
  let s := { s with curBlk := s.blkaddr }
  if inRange s then callCommand c opcode (blockArg s) { s with phase := .commandSent }
  else complete (some .rangeError) s

/-- After WAIT_R1, in READ and WRITE: `phase <- R1_RECEIVED` (R160, R170). -/
def r1Received (s : State) : State := { s with phase := .r1Received, ctl := .r1Test }

/-- A nonzero R1 is a rejection, zero goes on to the token (R162, R163). -/
def readTestR1 (s : State) : State :=
  if s.r1 = 0 then startToken { s with phase := .tokenWait } else raise .commandRejected s

/-- The burst begins (R163). -/
def startBurst (s : State) : State := { drawBurst s with ctl := .payloadIn 0 }

/-- Payload byte `k`, or the end of the burst (R163). -/
def recvPayload (k : BitVec 10) (s : State) : State :=
  if k < s.burstCount then
    { setBufByte (exchange idleByte s) (k.setWidth 9) (rxNext s) with ctl := .payloadIn (k + 1) }
  else { s with ctl := .checkInHi }

/-- The first check byte, `wire_crc[15:8]` (R164). -/
def recvCheckHi (s : State) : State :=
  { exchange idleByte s with wireCrc := rxNext s ++ s.wireCrc.extractLsb' 0 8, ctl := .checkInLo }

/-- The second check byte, `wire_crc[7:0]`; `RCRC <- wire_crc` (R164). -/
def recvCheckLo (s : State) : State :=
  { exchange idleByte s with
    wireCrc := s.wireCrc.extractLsb' 8 8 ++ rxNext s
    rcrc := s.wireCrc.extractLsb' 8 8 ++ rxNext s
    phase := .crcCheck
    ctl := .crcCheck }

/-- The two integrity tests, in this order (R165). -/
def checkBlock (s : State) : State :=
  if s.burstCount = 512 then
    if Config.crc16 (bufBytes s) = s.wireCrc then { s with ctl := .release none } else raise .crcMismatch s
  else raise .inconsistent s

end Sys2Proof.Machine
end

