-- ==== Sys2Proof/Machine/BlockWrite.lean ====
section
/-! DEFINITION. The Block Writer: WRITE outside its command phase (R170 to R177). -/

namespace Sys2Proof.Machine

/-- A nonzero R1 is a rejection, zero goes on to the data packet (R172, R173). -/
def writeTestR1 (s : State) : State :=
  if s.r1 = 0 then { s with phase := .tokenSent, ctl := .token } else raise .commandRejected s

/-- Send `BUF[k]` (R173). -/
def sendPayload (k : BitVec 9) (s : State) : State :=
  { exchange (bufByte s k) s with ctl := if k = 511 then .checkOutHi else .payloadOut (k + 1) }

/-- Send `crc16(BUF)[15:8]` (R173). -/
def sendCheckHi (s : State) : State :=
  { exchange ((Config.crc16 (bufBytes s)).extractLsb' 8 8) s with ctl := .checkOutLo }

/-- Send `crc16(BUF)[7:0]` (R173). -/
def sendCheckLo (s : State) : State :=
  { exchange ((Config.crc16 (bufBytes s)).extractLsb' 0 8) s with phase := .responseCheck, ctl := .response }

/-- The programming wait is exhausted (R175). -/
def progExhausted (s : State) : State := raise .busyTimeout s

end Sys2Proof.Machine
end

