-- ==== Sys2Proof/Machine/FrameCodec.lean ====
section
/-! DEFINITION. The Frame Codec: ENCODE (R110 to R114). -/

namespace Sys2Proof.Machine

/-- ENCODE writes FRAME and nothing else (R110, R114). The check byte is computed from opcode and argument (R112); the
word's own check byte is its result, no operand. -/
def execEncode (opcode : BitVec 6) (arg : U32) (_check : Byte) (s : State) : Host.Outcome State Fault Refusal :=
  .next { s with frame := encodeFrame opcode arg }

end Sys2Proof.Machine
end

