-- ==== Sys2Proof/Machine/Sequencer.lean ====
section
/-! DEFINITION. The Initialization Sequencer: the steps of INIT outside its command phases (R140 to R152). -/

namespace Sys2Proof.Machine

/-- Step 0 at START: `INITED`, the descriptor and its working copy are cleared, `phase <- I_PREP` (R141). -/
def beginInit (s : State) : State :=
  { s with inited := false, cd := Descriptor.zero, w := Descriptor.zero, phase := .iPrep, ctl := .initBaud }

/-- Step 0: `SET_BAUD(INIT_BAUD_HZ)`; step 1 begins (R141, R142). -/
def initBaud (s : State) : State :=
  { setBaud Config.initBaudHz s with phase := .iSync, ctl := .sync 0 }

/-- Step 1: one of the `N_SYNC` idle bytes, or on to command 0 (R142, R143). -/
def syncStep (sent : U32) (s : State) : State :=
  if sent < s.nSync then { exchange idleByte s with ctl := .sync (sent + 1) }
  else callCommand .cmd0 opcGoIdle argZero s

/-- Step 4 begins: `t0_init <- NOW()`, then command 55 (R145). -/
def startOpCond (s : State) : State :=
  callCommand .cmd55 opcAppCmd argZero { sampleTime s with t0Init := timeNext s }

/-- Step 4, after a nonzero answer to command 41: `Timeout` past the budget, else the next iteration (R145). -/
def testBudget (s : State) : State :=
  if s.tInitMs ≤ elapsed (timeNext s) s.t0Init then raise .timeout (sampleTime s)
  else callCommand .cmd55 opcAppCmd argZero (sampleTime s)

/-! ## The CSD (R147, R148) -/

/-- CSD byte `k`, byte 0 highest (R64). -/
def csdByte (csd : BitVec 128) (k : Fin 16) : Byte := csd.extractLsb' (120 - 8 * k.val) 8

/-- The version field, `csd[0][7:6]` (R93). -/
def csdVersion (csd : BitVec 128) : BitVec 2 := (csdByte csd 0).extractLsb' 6 2

/-- The 22-bit size field of the modern layout, `csd[7][5:0] ++ csd[8] ++ csd[9]` (R93). -/
def csdSizefield (csd : BitVec 128) : BitVec 22 := (csdByte csd 7).extractLsb' 0 6 ++ csdByte csd 8 ++ csdByte csd 9

/-- The parse of R148: sizes for version 1, zeros for the others; the addressing mode is kept. -/
def parseCsd (csd : BitVec 128) (w : Descriptor) : Descriptor :=
  if csdVersion csd = 1 then
    { isHc := w.isHc
      csdVer := 1
      sizefield := (csdSizefield csd).setWidth 32
      blockcount := ((csdSizefield csd).setWidth 32 + 1) * 1024
      bytesize := ((csdSizefield csd).setWidth 32 + 1) * 1024 * 512 }
  else { isHc := w.isHc, csdVer := csdVersion csd, sizefield := 0, blockcount := 0, bytesize := 0 }

/-- Step 6: receive CSD byte `k` (R147). -/
def recvCsd (k : Fin 16) (s : State) : State :=
  { exchange idleByte s with
    csd := pushByte s.csd (rxNext s)
    ctl := if k = 15 then .csdCheck 0 else .csd (k + 1) }

/-- Step 6: receive and discard check byte `k` (R147). -/
def recvCsdCheck (k : Fin 2) (s : State) : State :=
  { exchange idleByte s with ctl := if k = 1 then .release none else .csdCheck 1 }

/-! ## What follows each transaction of INIT -/

/-- Step 2: only an R1 with bit 7 set fails (R143). -/
def afterCmd0 (s : State) : State :=
  if s.r1.msb then raise .commandRejected s else callCommand .cmd8 opcSendIfCond argIfCond s

/-- Step 3: the reply is stored before the test (R144, R152). -/
def afterCmd8 (s : State) : State :=
  if s.r1.msb then raise .commandRejected { s with diagIfcond := s.rep }
  else { s with diagIfcond := s.rep, ctl := .initTime }

/-- Step 4: the R1 of command 55 is ignored (R145). -/
def afterCmd55 (s : State) : State := callCommand .acmd41 opcSdSendOpCond argOpCond s

/-- Step 4: a zero R1 ends the loop, anything else goes to the time test (R145). -/
def afterAcmd41 (s : State) : State :=
  if s.r1 = 0 then callCommand .cmd58 opcReadOcr argZero s else { s with ctl := .budget }

/-- Step 5: bit 6 of the first reply byte is the addressing mode (R146). -/
def afterCmd58 (s : State) : State :=
  if s.r1 = 0 then
    callCommand .cmd9 opcSendCsd argZero { s with diagOcr := s.rep, w := { s.w with isHc := s.rep.getLsbD 30 } }
  else raise .commandRejected s

/-- Step 6, released: the CSD is kept and parsed; step 7 only for a card that is not high-capacity (R147 to R149). -/
def afterCmd9 (s : State) : State :=
  let parsed := { s with diagCsd := s.csd, w := parseCsd s.csd s.w }
  if s.w.isHc then { parsed with ctl := .raiseBaud } else callCommand .cmd16 opcSetBlocklen argBlocklen parsed

/-- Step 7 (R149). -/
def afterCmd16 (s : State) : State :=
  if s.r1 = 0 then { s with ctl := .raiseBaud } else raise .commandRejected s

/-- Step 8: `SET_BAUD(BAUD_HZ)` (R150). -/
def raiseBaud (s : State) : State := { setBaud s.baudHz s with phase := .iBaud, ctl := .commit }

/-- Step 8: the descriptor and `INITED` are written together and INIT completes with `OK` (R150). -/
def commitInit (s : State) : State := complete none { s with cd := s.w, inited := true }

end Sys2Proof.Machine
end

