-- ==== Sys2Proof/Machine/Executor.lean ====
section
/-! DEFINITION. The Transaction Executor: CMD_PHASE, RELEASE and EXECUTE, with the callers they return to (R130 to R136). -/

namespace Sys2Proof.Machine

/-! ## CMD_PHASE (R130) -/

/-- Which commands skip the ready wait: command 0 and command 8 (R133). -/
def skipReady : Command → Bool
  | .cmd0 => true
  | .cmd8 => true
  | .cmd55 => false
  | .acmd41 => false
  | .cmd58 => false
  | .cmd9 => false
  | .cmd16 => false
  | .cmd17 => false
  | .cmd24 => false

/-- The phase of a command's command phase (R24, R143 to R149, R160, R170). -/
def Command.phase : Command → Phase
  | .cmd0 => .iReset
  | .cmd8 => .iIfCond
  | .cmd55 => .iAppCmd
  | .acmd41 => .iOpCond
  | .cmd58 => .iOcr
  | .cmd9 => .iCsd
  | .cmd16 => .iSetBlk
  | .cmd17 => .commandSent
  | .cmd24 => .commandSent

/-- The head of CMD_PHASE for a command: `CS_ASSERT`, then the ready wait or the frame. What FRAME holds is no matter (R130). -/
def beginCommand (c : Command) (s : State) : State :=
  { csAssert s with cmd := c, phase := c.phase, ctl := if skipReady c then .frame 0 else .readyTime }

/-- Send `FRAME[k]`. -/
def sendFrame (k : Fin 6) (s : State) : State :=
  { exchange (frameByte s.frame k) s with ctl := if k = 5 then .frameFlush else .frame (k + 1) }

/-- The flush byte after the frame, its received byte discarded; WAIT_R1 begins. -/
def flushFrame (s : State) : State := startR1 (exchange idleByte s)

/-! ## The callers after CMD_PHASE -/

/-- EXECUTE with no reply: RELEASE follows (R132). -/
def noReply (s : State) : State := { s with ctl := .release none }

/-- EXECUTE with a 4-byte reply, read whatever `r1` is (R132). -/
def startReply (s : State) : State := { s with ctl := .reply 0 }

/-- Receive reply byte `k` (R132, R88). -/
def recvReply (k : Fin 4) (s : State) : State :=
  { exchange idleByte s with
    rep := pushByte s.rep (rxNext s)
    ctl := if k = 3 then .release none else .reply (k + 1) }

/-- INIT step 6 after WAIT_R1 (R147). -/
def csdAfterR1 (s : State) : State := if s.r1 = 0 then startToken s else raise .commandRejected s

/-- The caller of the command phase goes on with `r1`. -/
def afterR1 (s : State) : State :=
  match s.cmd with
  | .cmd0 => noReply s
  | .cmd8 => startReply s
  | .cmd55 => noReply s
  | .acmd41 => noReply s
  | .cmd58 => startReply s
  | .cmd9 => csdAfterR1 s
  | .cmd16 => noReply s
  | .cmd17 => r1Received s
  | .cmd24 => r1Received s

/-- READ and WRITE test `r1`. -/
def testR1 (s : State) : State := if s.cmd = .cmd24 then writeTestR1 s else readTestR1 s

/-! ## RELEASE (R131) -/

/-- `CS_DEASSERT`. -/
def releaseCs (e : Option ErrorKind) (s : State) : State := { csDeassert s with ctl := .flush e }

/-- What follows a transaction that did not fail. -/
def afterTransaction (s : State) : State :=
  match s.cmd with
  | .cmd0 => afterCmd0 s
  | .cmd8 => afterCmd8 s
  | .cmd55 => afterCmd55 s
  | .acmd41 => afterAcmd41 s
  | .cmd58 => afterCmd58 s
  | .cmd9 => afterCmd9 s
  | .cmd16 => afterCmd16 s
  | .cmd17 => complete none s
  | .cmd24 => complete none s

/-- The flush byte of a failure exit. `DIAG.LAST_RX` is the byte received here (R33), but after `WriteRejected`, where U8 has it
keep the data-response byte. DESIGN CHOICE (log entry 18): R33 read by itself overwrites that byte too. -/
def flushFailure (e : ErrorKind) (s : State) : State :=
  { exchange idleByte s with lastRx := if e.recordsRx then s.lastRx else rxNext s }

/-- The flush byte with chip-select deasserted, its received byte discarded; then the error of the failure exit (R196) or
the caller. -/
def flushRelease (e : Option ErrorKind) (s : State) : State :=
  match e with
  | some k => complete (some k) (flushFailure k s)
  | none => afterTransaction (exchange idleByte s)

end Sys2Proof.Machine
end

