-- ==== Sys2Proof/Machine/Commands.lean ====
section
/-! DEFINITION. The meanings of the nine command frames: each begins its command phase, in its own phase (R143 to R147,
R149, R162, R172). What follows the frame is the Executor's, by the command in flight. -/

namespace Sys2Proof.Machine

/-- INIT step 2 (R143). -/
def execCmd0 (s : State) : Host.Outcome State Fault Refusal := .next (beginCommand .cmd0 s)

/-- INIT step 3 (R144). -/
def execCmd8 (s : State) : Host.Outcome State Fault Refusal := .next (beginCommand .cmd8 s)

/-- INIT step 4, first command (R145). -/
def execCmd55 (s : State) : Host.Outcome State Fault Refusal := .next (beginCommand .cmd55 s)

/-- INIT step 4, second command (R145). -/
def execAcmd41 (s : State) : Host.Outcome State Fault Refusal := .next (beginCommand .acmd41 s)

/-- INIT step 5 (R146). -/
def execCmd58 (s : State) : Host.Outcome State Fault Refusal := .next (beginCommand .cmd58 s)

/-- INIT step 6 (R147). -/
def execCmd9 (s : State) : Host.Outcome State Fault Refusal := .next (beginCommand .cmd9 s)

/-- INIT step 7 (R149). -/
def execCmd16 (s : State) : Host.Outcome State Fault Refusal := .next (beginCommand .cmd16 s)

/-- READ (R162); the argument is in FRAME. -/
def execCmd17 (_arg : U32) (s : State) : Host.Outcome State Fault Refusal := .next (beginCommand .cmd17 s)

/-- WRITE (R172); the argument is in FRAME. -/
def execCmd24 (_arg : U32) (s : State) : Host.Outcome State Fault Refusal := .next (beginCommand .cmd24 s)

end Sys2Proof.Machine
end

