-- ==== Sys2Proof/Machine/HostOps.lean ====
section
/-! DEFINITION. The meanings of the four host operation codes: NOP (R182) and the START of INIT, READ and WRITE (R181). -/

namespace Sys2Proof.Machine

/-- The operation latched in `cur_op` begins, with all it does before its first bus event (R141, R160, R170). -/
def launch (s : State) : State :=
  match s.curOp with
  | .nop => s
  | .init => beginInit s
  | .read => beginTransfer .cmd17 opcReadSingle s
  | .write => beginTransfer .cmd24 opcWriteSingle s

/-- START (R181): ignored while `BUSY = 1`. -/
def start (op : HostOp) (s : State) : State := if s.busy then s else launch (latchStart op s)

/-- NOP changes nothing (R182). -/
def execNop (s : State) : Host.Outcome State Fault Refusal := .next s

/-- START of INIT (R140, R141, R181). -/
def execInit (s : State) : Host.Outcome State Fault Refusal := .next (start .init s)

/-- START of READ (R160, R161, R181). -/
def execRead (s : State) : Host.Outcome State Fault Refusal := .next (start .read s)

/-- START of WRITE (R170, R171, R181). -/
def execWrite (s : State) : Host.Outcome State Fault Refusal := .next (start .write s)

end Sys2Proof.Machine
end

