-- ==== Sys2Proof/Machine/Tokens.lean ====
section
/-! DEFINITION. The meanings of the bytes of the bus. A received byte acts where a wait looks for it and nowhere else
(R95(c)); the data-start token is also sent, by WRITE (R90). The exchange itself is done before these run, but for the
token WRITE sends. -/

namespace Sys2Proof.Machine

/-- A valid R1 byte ends WAIT_R1 (R87, R122). -/
def execR1 (status : BitVec 7) (s : State) : Host.Outcome State Fault Refusal :=
  if s.ctl = .waitR1 then .next (endR1 { s with r1 := (0 : BitVec 1) ++ status }) else .next s

/-- WAIT_TOKEN has found the token: the CSD bytes or the payload follow (R123, R147, R163). -/
def tokenFound (s : State) : State :=
  if s.cmd = .cmd9 then { s with ctl := .csd 0 } else { s with phase := .transfer, ctl := .burst }

/-- WRITE sends the token; the payload follows (R173). -/
def sendToken (s : State) : State := { exchange tokenStart s with phase := .transfer, ctl := .payloadOut 0 }

/-- The data-start token (R90). -/
def execDataStart (s : State) : Host.Outcome State Fault Refusal :=
  if s.ctl = .waitToken then .next (tokenFound s)
  else if s.ctl = .token then .next (sendToken s)
  else .next s

/-- An accepting data-response byte starts the programming wait, whatever its bits 7:5 (R91, R174, R175). -/
def execDataResponseAccepted (_ignored : BitVec 3) (s : State) : Host.Outcome State Fault Refusal :=
  if s.ctl = .response then .next (startProg { s with phase := .programWait }) else .next s

/-- The idle byte: "card not busy" to WAIT_READY, so the frame follows; "programming complete" to WAIT_PROG, so RELEASE
follows (R92, R121, R124, R176). -/
def execIdle (s : State) : Host.Outcome State Fault Refusal :=
  if s.ctl = .readyPoll then .next { s with ctl := .frame 0 }
  else if s.ctl = .waitProg then .next { s with ctl := .release none }
  else .next s

end Sys2Proof.Machine
end

