-- ==== Sys2Proof/Machine/Dispatch.lean ====
section
/-! DEFINITION. What each instruction does: one arm per row of spec/opcode_table.json. -/

namespace Sys2Proof.Machine

def exec (i : Instr) (s : State) : Host.Outcome State Fault Refusal :=
  match i with
  | .nop => Sys2Proof.Machine.execNop s
  | .init => Sys2Proof.Machine.execInit s
  | .read => Sys2Proof.Machine.execRead s
  | .write => Sys2Proof.Machine.execWrite s
  | .cmd0 => Sys2Proof.Machine.execCmd0 s
  | .cmd8 => Sys2Proof.Machine.execCmd8 s
  | .cmd55 => Sys2Proof.Machine.execCmd55 s
  | .acmd41 => Sys2Proof.Machine.execAcmd41 s
  | .cmd58 => Sys2Proof.Machine.execCmd58 s
  | .cmd9 => Sys2Proof.Machine.execCmd9 s
  | .cmd16 => Sys2Proof.Machine.execCmd16 s
  | .cmd17 arg => Sys2Proof.Machine.execCmd17 arg s
  | .cmd24 arg => Sys2Proof.Machine.execCmd24 arg s
  | .encode opcode arg check => Sys2Proof.Machine.execEncode opcode arg check s
  | .r1 status => Sys2Proof.Machine.execR1 status s
  | .dataStart => Sys2Proof.Machine.execDataStart s
  | .dataResponseAccepted ignored => Sys2Proof.Machine.execDataResponseAccepted ignored s
  | .idle => Sys2Proof.Machine.execIdle s

end Sys2Proof.Machine
end

