-- ==== Sys2Proof/Machine/Fetch.lean ====
section
/-! DEFINITION. What a step does before it runs an instruction: the host's inputs, the controller's control points, and
the decoding of the word a control point takes. A step makes at most one bus event (R7; log entry 11). -/

namespace Sys2Proof.Machine

/-- What a step is about to do. -/
inductive Turn where
  /-- Run an instruction on a state (in which the exchange that brought its byte is done). -/
  | run (i : Instr) (s : State)
  /-- Go on without one. -/
  | move (s : State)
  /-- The step needs an exchange that never completes. -/
  | hung
  deriving DecidableEq, Repr

/-- Run what was decoded, or go on as its absence says. -/
def orElse (d : Except Reject Instr) (run : State) (other : State) : Turn :=
  match d with
  | .ok i => .run i run
  | .error _ => .move other

/-- The controller's turn: from each control point, the one event or decision that follows. CMD_PHASE sends whatever FRAME
holds (R130): one that is none of the nine goes out as the command that was called (log entry 17). -/
def controllerTurn (s : State) : Turn :=
  match s.ctl with
  | .idle => .move s
  | .initBaud => .move (initBaud s)
  | .sync sent => .move (syncStep sent s)
  | .initTime => .move (startOpCond s)
  | .encode opcode arg => .run (.encode opcode arg (checkByte opcode arg)) { s with ctl := .command }
  | .command => orElse (decode .command (.frame s.frame)) s (beginCommand s.cmd s)
  | .readyTime => .move (startReady s)
  | .readyPoll => orElse (decode .ready (.byte (rxNext s))) (pollReady s) (readyBusy (pollReady s))
  | .readyTest => .move (testReady s)
  | .frame k => .move (sendFrame k s)
  | .frameFlush => .move (flushFrame s)
  | .waitR1 =>
    if s.cnt < s.nR1 then orElse (decode .r1 (.byte (rxNext s))) (pollR1 s) (pollR1 s) else .move (endR1 s)
  | .afterR1 => .move (afterR1 s)
  | .r1Test => .move (testR1 s)
  | .reply k => .move (recvReply k s)
  | .waitToken =>
    if s.cnt < s.nToken then orElse (decode .token (.byte (rxNext s))) (pollCounted s) (pollCounted s)
    else .move (raise .tokenTimeout s)
  | .csd k => .move (recvCsd k s)
  | .csdCheck k => .move (recvCsdCheck k s)
  | .burst => .move (startBurst s)
  | .payloadIn k => .move (recvPayload k s)
  | .checkInHi => .move (recvCheckHi s)
  | .checkInLo => .move (recvCheckLo s)
  | .crcCheck => .move (checkBlock s)
  | .token => .run .dataStart s
  | .payloadOut k => .move (sendPayload k s)
  | .checkOutHi => .move (sendCheckHi s)
  | .checkOutLo => .move (sendCheckLo s)
  | .response =>
    orElse (decode .dataResponse (.byte (rxNext s))) (exchange idleByte s) (raise .writeRejected (exchange idleByte s))
  | .waitProg =>
    if s.cnt < s.nProg then orElse (decode .programming (.byte (rxNext s))) (pollCounted s) (pollCounted s)
    else .move (progExhausted s)
  | .release e => .move (releaseCs e s)
  | .flush e => .move (flushRelease e s)
  | .budget => .move (testBudget s)
  | .raiseBaud => .move (raiseBaud s)
  | .commit => .move (commitInit s)

/-- Whether the controller's turn is an exchange of the transport (R236). -/
def exchangeDue (s : State) : Bool :=
  match s.ctl with
  | .sync sent => decide (sent < s.nSync)
  | .readyPoll => true
  | .frame _ => true
  | .frameFlush => true
  | .waitR1 => decide (s.cnt < s.nR1)
  | .reply _ => true
  | .waitToken => decide (s.cnt < s.nToken)
  | .csd _ => true
  | .csdCheck _ => true
  | .payloadIn k => decide (k < s.burstCount)
  | .checkInHi => true
  | .checkInLo => true
  | .token => true
  | .payloadOut _ => true
  | .checkOutHi => true
  | .checkOutLo => true
  | .response => true
  | .waitProg => decide (s.cnt < s.nProg)
  | .flush _ => true
  | .idle => false
  | .initBaud => false
  | .initTime => false
  | .encode _ _ => false
  | .command => false
  | .readyTime => false
  | .readyTest => false
  | .afterR1 => false
  | .r1Test => false
  | .burst => false
  | .crcCheck => false
  | .release _ => false
  | .budget => false
  | .raiseBaud => false
  | .commit => false

/-- A host action. A write to `CTRL` is the operation code it carries; START itself looks at `BUSY` (R23, R181). -/
def hostTurn (a : HostAction) (s : State) : Turn :=
  match a with
  | .regWrite i v =>
    match hostReg i with
    | none => .move s
    | some .ctrl => .run (decodeCtrl v) s
    | some r => .move (writeHostReg r v s)
  | .regRead i => .move { s with rdata := regRead i s }
  | .bufWrite k v => .move (bufWrite k v s)
  | .bufRead k => .move { s with rdata := (bufReadValue k s).setWidth 32, draws := s.draws + 1 }

/-- The controller's turn, unless it needs an exchange of a stalled transport (R236). -/
def ownTurn (s : State) : Turn := if s.stalled && exchangeDue s then .hung else controllerTurn s

/-- Reset: every state element takes its value of R36, with no bus event; `BUF` and `cur_baud` are unspecified anew. What
the environment has in store is no state of the controller and stays; a stalled transport recovers (R236), and the trace
begins again (R220, R221; log entry 12). -/
def resetController (s : State) : State :=
  { State.reset with
    curBaud := Config.freeBaud (s.resets + 1)
    rdata := s.rdata
    inputs := s.inputs
    rxQueue := s.rxQueue
    timeQueue := s.timeQueue
    burstQueue := s.burstQueue
    draws := s.draws
    resets := s.resets + 1 }

/-- The next turn: the first pending input, or the controller's own. -/
def nextTurn (s : State) : Turn :=
  match s.inputs with
  | [] => ownTurn s
  | .turn :: rest => ownTurn { s with inputs := rest }
  | .host a :: rest => hostTurn a { s with inputs := rest }
  | .reset :: rest => .move (resetController { s with inputs := rest })
  | .hang :: rest => .move { s with inputs := rest, stalled := true }
  | .poll :: rest =>
    if s.done then .move { s with inputs := rest, rdata := statusWord s }
    else ownTurn { s with rdata := statusWord s }

/-! ## Placing an instruction of the opcode table where the next step takes it (log entry 13) -/

/-- The control point at which a slot takes its word. -/
def slotCtl : Slot → Instr → Ctl
  | .ctrl, _ => .idle
  | .encoder, .encode opcode arg _ => .encode opcode arg
  | .encoder, _ => .command
  | .command, _ => .command
  | .ready, _ => .readyPoll
  | .r1, _ => .waitR1
  | .token, _ => .waitToken
  | .dataResponse, _ => .response
  | .programming, _ => .waitProg

/-- The operation in whose course a slot takes an instruction, with the command and the phase it is then in. -/
def slotCaller : Slot → Instr → HostOp × Command × Phase
  | .command, .cmd17 _ => (.read, .cmd17, .commandSent)
  | .command, .cmd24 _ => (.write, .cmd24, .commandSent)
  | .token, _ => (.read, .cmd17, .tokenWait)
  | .dataResponse, _ => (.write, .cmd24, .responseCheck)
  | .programming, _ => (.write, .cmd24, .programWait)
  | _, _ => (.init, .cmd0, .iReset)

/-- The controller in the course of an operation, about to take its next word at a slot: busy, its counters at zero and
the bounds of the waits at least 1, and the transport running. -/
def atSlot (slot : Slot) (i : Instr) (s : State) : State :=
  { s with
    inputs := .turn :: s.inputs
    stalled := false
    busy := true
    done := false
    err := false
    errcode := none
    curOp := (slotCaller slot i).1
    cmd := (slotCaller slot i).2.1
    phase := (slotCaller slot i).2.2
    ctl := slotCtl slot i
    cnt := 0
    nR1 := if s.nR1 = 0 then 1 else s.nR1
    nToken := if s.nToken = 0 then 1 else s.nToken }

/-- A word of the opcode table placed where the next step takes it: an operation code is a pending `CTRL` write, a frame
stands in FRAME (or is the operands of ENCODE), a byte is the card's next answer. -/
def placeWord (word : CodeWord) (slot : Slot) (i : Instr) (s : State) : State :=
  match word with
  | .ctrl v => { s with inputs := .host (.regWrite 0 v) :: s.inputs }
  | .frame f => { atSlot slot i s with frame := f }
  | .byte b => { atSlot slot i s with rxQueue := b :: s.rxQueue }

/-- Nothing is placed for a number that is no word of the table. -/
def placeTableWord (s : State) (nbits w : Nat) : State :=
  match tableSlot nbits w with
  | none => s
  | some (word, slot, i) => placeWord word slot i s

end Sys2Proof.Machine
end

