-- ==== Sys2Proof/Machine/Step.lean ====
section
/-! DEFINITION. One step: the next turn, with `exec` for its instruction. -/

namespace Sys2Proof.Machine

/-- The outcome of a turn. -/
def runTurn : Turn → Host.Outcome State Fault Refusal
  | .run i s => exec i s
  | .move s => .next s
  | .hung => .fault .transportHung

/-- One step: one host input, or one event or decision of the controller (R7, R21). -/
def step (s : State) : Host.Outcome State Fault Refusal := runTurn (nextTurn s)

/-- One step of the controller alone: what `step` is where no input is pending and the
transport has not stalled. -/
def controllerStep (s : State) : Host.Outcome State Fault Refusal := runTurn (controllerTurn s)

/-- The state whose next step takes this word of the opcode table. -/
def State.withFetchWord (s : State) (nbits w : Nat) : State := placeTableWord s nbits w

end Sys2Proof.Machine
end

