-- ==== Sys2Proof/Safety.lean ====
section
/-! DEFINITION. What counts as a safe state: where chip-select is asserted, which command, phase and operation a control
point belongs to, how a trace is bracketed, and the invariant that joins them. -/

namespace Sys2Proof.Machine

/-! ## Runs -/

/-- `n` steps, stopping at the first stop. -/
def runSteps : Nat → State → Host.Outcome State Fault Refusal
  | 0, s => .next s
  | n + 1, s =>
    match step s with
    | .next t => runSteps n t
    | .fault r => .fault r
    | .refused r => .refused r

/-- `n` steps of the controller alone, whatever inputs are pending. -/
def controllerRun : Nat → State → Host.Outcome State Fault Refusal
  | 0, s => .next s
  | n + 1, s =>
    match controllerStep s with
    | .next t => controllerRun n t
    | .fault r => .fault r
    | .refused r => .refused r

/-- The exchanges of a list of sent bytes with the bytes received for them, as a trace (newest first). -/
def exchanges (sent received : List Byte) : List BusEvent := (List.zipWith BusEvent.xchg sent received).reverse

/-- The polls of WAIT_READY a busy byte answers, a time reading after each, as a trace (newest first). -/
def busyPolls (received : List Byte) (readings : List U32) : List BusEvent :=
  (List.zipWith (fun b r => [BusEvent.xchg 0xFF b, .now r]) received readings).flatten.reverse

/-- The phases with their codes, as the table of R24 lists them. -/
def phaseTable : List (Phase × Nat) :=
  [(.idle, 0), (.iPrep, 1), (.iSync, 2), (.iReset, 3), (.iIfCond, 4), (.iAppCmd, 5), (.iOpCond, 6), (.iOcr, 7), (.iCsd, 8),
    (.iSetBlk, 9), (.iBaud, 10)] ++
  [(.commandSent, 16), (.r1Received, 17), (.tokenWait, 18), (.transfer, 19), (.crcCheck, 20), (.tokenSent, 21),
    (.responseCheck, 22), (.programWait, 23), (.done, 24), (.failed, 25)]

/-- A run from reset in an arbitrary environment: the world's inputs, the card's bytes, the time readings and the burst
counts. -/
def bootWith (inputs : List Input) (rx : List Byte) (times : List U32) (bursts : List (BitVec 10)) : State :=
  { State.reset with inputs := inputs, rxQueue := rx, timeQueue := times, burstQueue := bursts }

/-! ## The trace (R135, R136) -/

/-- Whether the newest chip-select event of a trace is an assertion. -/
def traceCs : List BusEvent → Bool
  | [] => false
  | .csAssert :: _ => true
  | .csDeassert :: _ => false
  | .xchg _ _ :: rest => traceCs rest
  | .setBaud _ :: rest => traceCs rest
  | .now _ :: rest => traceCs rest

/-- Chip-select is asserted and deasserted in turn, outside a transaction nothing but idle bytes is sent, and the bus rate
changes outside transactions only. -/
def bracketed : List BusEvent → Bool
  | [] => true
  | .csAssert :: rest => !traceCs rest && bracketed rest
  | .csDeassert :: rest => traceCs rest && bracketed rest
  | .xchg tx _ :: rest => (traceCs rest || tx == idleByte) && bracketed rest
  | .setBaud _ :: rest => !traceCs rest && bracketed rest
  | .now _ :: rest => bracketed rest

/-! ## Control points -/

/-- The control points inside a transaction: from the event after `CS_ASSERT` to `CS_DEASSERT` (R130, R131). -/
def Ctl.inTransaction : Ctl → Bool
  | .idle => false
  | .initBaud => false
  | .sync _ => false
  | .initTime => false
  | .encode _ _ => false
  | .command => false
  | .readyTime => true
  | .readyPoll => true
  | .readyTest => true
  | .frame _ => true
  | .frameFlush => true
  | .waitR1 => true
  | .afterR1 => true
  | .r1Test => true
  | .reply _ => true
  | .waitToken => true
  | .csd _ => true
  | .csdCheck _ => true
  | .burst => true
  | .payloadIn _ => true
  | .checkInHi => true
  | .checkInLo => true
  | .crcCheck => true
  | .token => true
  | .payloadOut _ => true
  | .checkOutHi => true
  | .checkOutLo => true
  | .response => true
  | .waitProg => true
  | .release _ => true
  | .flush _ => false
  | .budget => false
  | .raiseBaud => false
  | .commit => false

/-- The operation a command belongs to (R86). -/
def Command.op : Command → HostOp
  | .cmd0 => .init
  | .cmd8 => .init
  | .cmd55 => .init
  | .acmd41 => .init
  | .cmd58 => .init
  | .cmd9 => .init
  | .cmd16 => .init
  | .cmd17 => .read
  | .cmd24 => .write

/-- The commands that may be next in a phase of an operation, each the one that was called (R152, R160, R170). -/
def mayFollow (op : HostOp) (p : Phase) (called : Command) (next : Except Reject Instr) : Bool :=
  match next with
  | .ok .cmd0 => called == .cmd0 && op == .init && p == .iSync
  | .ok .cmd8 => called == .cmd8 && op == .init && p == .iReset
  | .ok .cmd55 => called == .cmd55 && op == .init && (p == .iIfCond || p == .iOpCond)
  | .ok .acmd41 => called == .acmd41 && op == .init && p == .iAppCmd
  | .ok .cmd58 => called == .cmd58 && op == .init && p == .iOpCond
  | .ok .cmd9 => called == .cmd9 && op == .init && p == .iOcr
  | .ok .cmd16 => called == .cmd16 && op == .init && p == .iCsd
  | .ok (.cmd17 _) => called == .cmd17 && op == .read && p == .commandSent
  | .ok (.cmd24 _) => called == .cmd24 && op == .write && p == .commandSent
  | _ => false

/-- Where each error may be raised inside a transaction (R191, R201). -/
def raisedAt (c : Command) (p : Phase) : ErrorKind → Bool
  | .commandRejected => (c == .cmd9 && p == .iCsd) || ((c == .cmd17 || c == .cmd24) && p == .r1Received)
  | .tokenTimeout => (c == .cmd9 && p == .iCsd) || (c == .cmd17 && p == .tokenWait)
  | .inconsistent => c == .cmd17 && p == .crcCheck
  | .crcMismatch => c == .cmd17 && p == .crcCheck
  | .rangeError => false
  | .writeRejected => c == .cmd24 && p == .responseCheck
  | .busyTimeout => (!skipReady c && p == c.phase) || (c == .cmd24 && p == .programWait)
  | .timeout => false

/-- The phase in which a transaction ends without an error. -/
def Command.endPhase (c : Command) : Phase :=
  match c with
  | .cmd17 => .crcCheck
  | .cmd24 => .programWait
  | .cmd0 => .iReset
  | .cmd8 => .iIfCond
  | .cmd55 => .iAppCmd
  | .acmd41 => .iOpCond
  | .cmd58 => .iOcr
  | .cmd9 => .iCsd
  | .cmd16 => .iSetBlk

/-- Whether a transaction may end so in a phase. -/
def endsAt (c : Command) (p : Phase) : Option ErrorKind → Bool
  | none => p == c.endPhase
  | some e => raisedAt c p e

/-- Operation, command and phase agree with the control point. -/
def coherent (s : State) : Bool :=
  match s.ctl with
  | .idle => s.phase.resting
  | .initBaud => s.curOp == .init && s.phase == .iPrep
  | .sync _ => s.curOp == .init && s.phase == .iSync
  | .initTime => s.curOp == .init && s.phase == .iIfCond
  | .encode opcode arg => mayFollow s.curOp s.phase s.cmd (commandOf opcode arg)
  | .command => mayFollow s.curOp s.phase s.cmd (decodeCommand s.frame)
  | .readyTime => s.curOp == s.cmd.op && s.phase == s.cmd.phase && !skipReady s.cmd
  | .readyPoll => s.curOp == s.cmd.op && s.phase == s.cmd.phase && !skipReady s.cmd
  | .readyTest => s.curOp == s.cmd.op && s.phase == s.cmd.phase && !skipReady s.cmd
  | .frame _ => s.curOp == s.cmd.op && s.phase == s.cmd.phase
  | .frameFlush => s.curOp == s.cmd.op && s.phase == s.cmd.phase
  | .waitR1 => s.curOp == s.cmd.op && s.phase == s.cmd.phase
  | .afterR1 => s.curOp == s.cmd.op && s.phase == s.cmd.phase
  | .r1Test => s.curOp == s.cmd.op && (s.cmd == .cmd17 || s.cmd == .cmd24) && s.phase == .r1Received
  | .reply _ => s.curOp == .init && (s.cmd == .cmd8 || s.cmd == .cmd58) && s.phase == s.cmd.phase
  | .waitToken =>
    s.curOp == s.cmd.op && ((s.cmd == .cmd9 && s.phase == .iCsd) || (s.cmd == .cmd17 && s.phase == .tokenWait))
  | .csd _ => s.curOp == .init && s.cmd == .cmd9 && s.phase == .iCsd
  | .csdCheck _ => s.curOp == .init && s.cmd == .cmd9 && s.phase == .iCsd
  | .burst => s.curOp == .read && s.cmd == .cmd17 && s.phase == .transfer
  | .payloadIn _ => s.curOp == .read && s.cmd == .cmd17 && s.phase == .transfer
  | .checkInHi => s.curOp == .read && s.cmd == .cmd17 && s.phase == .transfer
  | .checkInLo => s.curOp == .read && s.cmd == .cmd17 && s.phase == .transfer
  | .crcCheck => s.curOp == .read && s.cmd == .cmd17 && s.phase == .crcCheck
  | .token => s.curOp == .write && s.cmd == .cmd24 && s.phase == .tokenSent
  | .payloadOut _ => s.curOp == .write && s.cmd == .cmd24 && s.phase == .transfer
  | .checkOutHi => s.curOp == .write && s.cmd == .cmd24 && s.phase == .transfer
  | .checkOutLo => s.curOp == .write && s.cmd == .cmd24 && s.phase == .transfer
  | .response => s.curOp == .write && s.cmd == .cmd24 && s.phase == .responseCheck
  | .waitProg => s.curOp == .write && s.cmd == .cmd24 && s.phase == .programWait
  | .release e => s.curOp == s.cmd.op && endsAt s.cmd s.phase e
  | .flush e => s.curOp == s.cmd.op && endsAt s.cmd s.phase e
  | .budget => s.curOp == .init && s.cmd == .acmd41 && s.phase == .iOpCond
  | .raiseBaud => s.curOp == .init && (s.phase == .iCsd || s.phase == .iSetBlk)
  | .commit => s.curOp == .init && s.phase == .iBaud

/-- A READ that is about to end without an error has a check value that matches the buffer (R165, R167). -/
def verified (s : State) : Prop :=
  match s.ctl with
  | .crcCheck => s.rcrc = s.wireCrc
  | .release none => s.cmd = .cmd17 → s.burstCount = 512 ∧ s.rcrc = Config.crc16 (bufBytes s)
  | .flush none => s.cmd = .cmd17 → s.burstCount = 512 ∧ s.rcrc = Config.crc16 (bufBytes s)
  | _ => True

/-! ## The invariant -/

/-- What holds in every state of every run from reset. -/
structure Inv (s : State) : Prop where
  /-- The buffer memory has its canonical form. -/
  bufWf : Memory.wf s.buf = true
  /-- `BUSY` is set exactly while an operation is in flight (R25). -/
  busyCtl : s.busy = decide (s.ctl ≠ .idle)
  /-- `BUSY` and the phase agree (R25, bit 0). -/
  busyPhase : s.busy = !s.phase.resting
  /-- `ERR` equals `ERRCODE != 0` (R25, bit 2). -/
  errCode : s.err = s.errcode.isSome
  /-- An operation in flight has reported nothing yet (R181). -/
  busyClear : s.busy = true → s.done = false ∧ s.errcode = none
  /-- Chip-select is asserted inside transactions and nowhere else (R136). -/
  csCtl : s.cs = s.ctl.inTransaction
  /-- The trace ends with chip-select as it stands. -/
  traceCsCs : traceCs s.trace = s.cs
  /-- The trace is bracketed (R135). -/
  traceOk : bracketed s.trace = true
  /-- Operation, command and phase agree with the control point. -/
  place : coherent s = true
  /-- The descriptor is zero unless an INIT has completed with `OK` since (R29, R63). -/
  cdZero : s.inited = false → s.cd = Descriptor.zero
  /-- While INIT runs, none has (R141). -/
  initClear : s.busy = true → s.curOp = .init → s.inited = false
  /-- READ ends with `OK` only on a matching check value (R165). -/
  crcOk : verified s

/-- The edges of the phase diagram (R24), and the loops of a phase that lasts. -/
def phaseEdge (p q : Phase) : Bool :=
  p == q ||
  match p with
  | .idle => q == .iPrep || q == .commandSent || q == .failed
  | .done => q == .iPrep || q == .commandSent || q == .failed
  | .failed => q == .iPrep || q == .commandSent || q == .failed
  | .iPrep => q == .iSync
  | .iSync => q == .iReset
  | .iReset => q == .iIfCond || q == .failed
  | .iIfCond => q == .iAppCmd || q == .failed
  | .iAppCmd => q == .iOpCond || q == .failed
  | .iOpCond => q == .iAppCmd || q == .iOcr || q == .failed
  | .iOcr => q == .iCsd || q == .failed
  | .iCsd => q == .iSetBlk || q == .iBaud || q == .failed
  | .iSetBlk => q == .iBaud || q == .failed
  | .iBaud => q == .done
  | .commandSent => q == .r1Received || q == .failed
  | .r1Received => q == .tokenWait || q == .tokenSent || q == .failed
  | .tokenWait => q == .transfer || q == .failed
  | .transfer => q == .crcCheck || q == .responseCheck
  | .crcCheck => q == .done || q == .failed
  | .tokenSent => q == .transfer
  | .responseCheck => q == .programWait || q == .failed
  | .programWait => q == .done || q == .failed

end Sys2Proof.Machine
end

