-- ==== Sys2Proof/Certificates/Slice0/Obligations.lean ====
section
/-! DEFINITION. The statements for the provers. Each docstring says which words of the spec it formalises; where it rests on
a choice of the spec itself (a decision D<n>, an item of general knowledge) or of the model (a log entry), it says so. -/

open Sys2Proof Sys2Proof.Machine

/-! ## Encodings -/

/-- Decoding the encoding of a well-formed instruction gives it back, in every slot that takes it: no operand bit of any
row is lost. (Marker, command numbers and accepting pattern are general knowledge, log entry 8.) -/
def Obligations.DecodeOfEncodeIsIdentity : Prop :=
  ∀ i : Instr, i.wellFormed = true → ∀ slot ∈ i.slots, decode slot (encode i) = .ok i

/-- In every slot but `CTRL` (whose upper bits are ignored) a word that decodes is the one encoding of what it decodes to, or
a frame that carries a checksum and differs from it in its last byte alone, which the controller never checks: no two other
words of a slot are the same instruction. -/
def Obligations.DecodedWordIsTheEncoding : Prop :=
  ∀ (slot : Slot) (word : CodeWord) (i : Instr), slot ≠ .ctrl → decode slot word = .ok i →
    encode i = word ∨
    ∃ f g : Frame, word = .frame f ∧ encode i = .frame g ∧ slot = .command ∧ (i = .cmd0 ∨ i = .cmd8) ∧
      f.extractLsb' 8 40 = g.extractLsb' 8 40

/-- The words of spec/opcode_table.json decode to their rows, and ENCODE with the default checksum gives the two frames the
table lists with a computed check byte. (The model's choices in this: that a frame word is tried as a command before it is
tried as the general form, log entry 10, a DESIGN CHOICE; the seven command numbers, marker, pattern and arguments, log entry
8, PRESUMED; the check bytes 0x95 and 0x87 of the default checksum, log entry 9, PRESUMED.) -/
def Obligations.TableWordsDecodeToTheirRows : Prop :=
  decodeTableWord 48 0x400000000095 = some .cmd0 ∧ decodeTableWord 48 0x48000001AA87 = some .cmd8 ∧
  decodeTableWord 48 0x7700000000FF = some .cmd55 ∧ decodeTableWord 48 0x6940000000FF = some .acmd41 ∧
  decodeTableWord 48 0x7A00000000FF = some .cmd58 ∧ decodeTableWord 48 0x4900000000FF = some .cmd9 ∧
  decodeTableWord 48 0x5000000200FF = some .cmd16 ∧ decodeTableWord 48 0x5112345678FF = some (.cmd17 0x12345678) ∧
  decodeTableWord 48 0x580007FE00FF = some (.cmd24 0x0007FE00) ∧
  decodeTableWord 48 0x7FFFFFFFFFFF = some (.encode 63 0xFFFFFFFF 0xFF) ∧
  decodeTableWord 48 0x400000000000 = some (.encode 0 0 0) ∧
  encodeFrameWith crc7Default 0 0 = 0x400000000095 ∧ encodeFrameWith crc7Default 8 0x1AA = 0x48000001AA87 ∧
  decodeTableWord 8 0x01 = some (.r1 1) ∧ decodeTableWord 8 0xFE = some .dataStart ∧
  decodeTableWord 8 0xE5 = some (.dataResponseAccepted 7) ∧ decodeTableWord 8 0xFF = some .idle ∧
  decodeTableWord 32 0xFFFFFFFD = some .init

/-- `CTRL.OP` is bits 1:0 of the written value and nothing else of it: 0 NOP, 1 INIT, 2 READ, 3 WRITE (the numbering is the
spec's decision D4). -/
def Obligations.OperationCodeIsTheLowTwoBits : Prop :=
  ∀ v : U32,
    (v.toNat % 4 = 0 → decode .ctrl (.ctrl v) = .ok .nop) ∧ (v.toNat % 4 = 1 → decode .ctrl (.ctrl v) = .ok .init) ∧
    (v.toNat % 4 = 2 → decode .ctrl (.ctrl v) = .ok .read) ∧ (v.toNat % 4 = 3 → decode .ctrl (.ctrl v) = .ok .write)

/-- R83, R84: ENCODE puts the argument big-endian in frame bytes 1 to 4; frame byte 5 is `crc7byte` of the first five bytes
for opcodes 0 and 8, the fill byte for all others, whatever the argument. FRAME is all that changes.
(`crc7byte` is the parameter of R12, whatever it computes.) -/
def Obligations.EncodeWritesArgumentAndCheckByte : Prop :=
  ∀ (o : BitVec 6) (a : U32) (c : Byte) (s : State), ∃ f : Frame,
    exec (.encode o a c) s = .next { s with frame := f } ∧
    frameByte f 1 = a.extractLsb' 24 8 ∧ frameByte f 2 = a.extractLsb' 16 8 ∧
    frameByte f 3 = a.extractLsb' 8 8 ∧ frameByte f 4 = a.extractLsb' 0 8 ∧
    (o = 0 ∨ o = 8 → frameByte f 5 =
      Config.crc7byte (frameByte f 0 ++ frameByte f 1 ++ frameByte f 2 ++ frameByte f 3 ++ frameByte f 4)) ∧
    (o ≠ 0 ∧ o ≠ 8 → frameByte f 5 = 0xFF)

/-- The opcode byte of every frame ENCODE builds is the marker `0b01` and the opcode (the value of the marker is general
knowledge, log entry 8), so a frame never begins with a byte whose bit 7 is set. -/
def Obligations.FrameBeginsWithMarkerAndOpcode : Prop :=
  ∀ (o : BitVec 6) (a : U32) (c : Byte) (s : State), ∃ t : State,
    exec (.encode o a c) s = .next t ∧ frameByte t.frame 0 = 0b01#2 ++ o ∧ (frameByte t.frame 0).msb = false

/-! ## The host's operations -/

/-- NOP, written with any upper bits, changes nothing (decision D4 of the spec); the host's action is used up. -/
def Obligations.NopChangesNothing : Prop :=
  ∀ (s : State) (v : U32) (rest : List Input), s.inputs = .host (.regWrite 0 v) :: rest → v.toNat % 4 = 0 →
    exec .nop s = .next s ∧ step s = .next { s with inputs := rest }

/-- "no transaction may overlap another (no reentrancy, no queuing)": a `CTRL` write while `BUSY = 1` is ignored, whatever
it writes (decision D4 of the spec). -/
def Obligations.StartIsIgnoredWhileBusy : Prop :=
  ∀ s : State, s.busy = true →
    exec .init s = .next s ∧ exec .read s = .next s ∧ exec .write s = .next s ∧
    ∀ (v : U32) (rest : List Input), s.inputs = .host (.regWrite 0 v) :: rest → step s = .next { s with inputs := rest }

/-- START of INIT clears the outcome of the last operation, `INITED`, the descriptor and its working copy, and enters
`I_PREP`; no bus event yet. The controller's next step requests `INIT_BAUD_HZ`, and step 1 begins with no idle byte sent
(decision D15 of the spec). Nothing else changes. -/
def Obligations.InitStartClearsTheDescriptor : Prop :=
  (∀ s : State, s.busy = false →
    exec .init s = .next { s with
      curOp := .init, done := false, err := false, errcode := none, busy := true, inited := false,
      cd := ⟨false, 0, 0, 0, 0⟩, w := ⟨false, 0, 0, 0, 0⟩, phase := .iPrep, ctl := .initBaud }) ∧
  (∀ s : State, s.ctl = .initBaud →
    controllerStep s = .next { s with
      curBaud := Config.initBaudHz, trace := .setBaud Config.initBaudHz :: s.trace, phase := .iSync, ctl := .sync 0 })

/-- R161, R171: a READ or WRITE of a block number at or above `CD_BLOCKCOUNT` completes at once with `RangeError`, with no bus
event; `BUF`, `RCRC` and everything not named is unchanged, and the phase goes to `FAILED` directly. Before any INIT has
completed with `OK` that is so of every block number, in every state the controller can be in. -/
def Obligations.RangeErrorTouchesNoBus : Prop :=
  ∀ s : State, s.busy = false →
    (¬ s.blkaddr < s.cd.blockcount →
      exec .read s = .next { s with
        curOp := .read, curBlk := s.blkaddr, errcode := some .rangeError, err := true, done := true,
        phase := .failed, failPhase := s.phase, ctl := .idle } ∧
      exec .write s = .next { s with
        curOp := .write, curBlk := s.blkaddr, errcode := some .rangeError, err := true, done := true,
        phase := .failed, failPhase := s.phase, ctl := .idle }) ∧
    (Inv s → s.inited = false → ¬ s.blkaddr < s.cd.blockcount)

/-- R62: a READ or WRITE in range goes on to encode its command with the block number itself as argument on a
high-capacity card and 512 times it, modulo 2^32, on any other. Nothing else changes but what START and the range check
write. -/
def Obligations.TransferArgumentFollowsAddressingMode : Prop :=
  ∀ s : State, s.busy = false → s.blkaddr < s.cd.blockcount →
    ∃ arg : U32, (s.cd.isHc = true → arg = s.blkaddr) ∧
      (s.cd.isHc = false → arg.toNat = s.blkaddr.toNat * 512 % 2 ^ 32) ∧
      exec .read s = .next { s with
        curOp := .read, curBlk := s.blkaddr, done := false, err := false, errcode := none, busy := true,
        phase := .commandSent, cmd := .cmd17, ctl := .encode opcReadSingle arg } ∧
      exec .write s = .next { s with
        curOp := .write, curBlk := s.blkaddr, done := false, err := false, errcode := none, busy := true,
        phase := .commandSent, cmd := .cmd24, ctl := .encode opcWriteSingle arg }

/-- From a started transfer to its first bus event: FRAME holds the block command with the argument of R62 and chip-select
is asserted, before anything is sent. -/
def Obligations.TransferAssertsChipSelectWithItsFrame : Prop :=
  ∀ (s : State) (arg : U32),
    (s.ctl = .encode opcReadSingle arg → ∃ t, controllerRun 2 s = .next t ∧
      t = { s with
        frame := encodeFrame opcReadSingle arg, cs := true, trace := .csAssert :: s.trace, cmd := .cmd17,
        phase := .commandSent, ctl := .readyTime }) ∧
    (s.ctl = .encode opcWriteSingle arg → ∃ t, controllerRun 2 s = .next t ∧
      t = { s with
        frame := encodeFrame opcWriteSingle arg, cs := true, trace := .csAssert :: s.trace, cmd := .cmd24,
        phase := .commandSent, ctl := .readyTime })

/-! ## The host port -/

/-- A write to an RW register while `BUSY = 0` writes that register and nothing else; it reads back as written (the low 8 bits
for `DATAIN_PIN`), and no other register reads differently but `STATUS` after a write of `BAUD_HZ` or `DATAIN_PIN` and `PINS`
after one of `DATAIN_PIN`, which show what was written (decisions D3, D25 of the spec). -/
def Obligations.RegisterWriteReadsBack : Prop :=
  ∀ (s : State) (i : Nat) (v : U32) (rest : List Input),
    i ∈ [3, 5, 10, 11, 12, 13, 14, 15, 19] → s.busy = false → s.inputs = .host (.regWrite i v) :: rest →
    (∃ t, step s = .next t ∧ regRead i t = (if i = 19 then v &&& 0xFF else v) ∧
      ∀ j, j ≠ i → (j = 1 → i ≠ 5 ∧ i ≠ 19) → (j = 20 → i ≠ 19) → regRead j t = regRead j s) ∧
    (i = 3 → step s = .next { s with inputs := rest, blkaddr := v }) ∧
    (i = 5 → step s = .next { s with inputs := rest, baudHz := v }) ∧
    (i = 10 → step s = .next { s with inputs := rest, tReadyMs := v }) ∧
    (i = 11 → step s = .next { s with inputs := rest, nR1 := v }) ∧
    (i = 12 → step s = .next { s with inputs := rest, nToken := v }) ∧
    (i = 13 → step s = .next { s with inputs := rest, nProg := v }) ∧
    (i = 14 → step s = .next { s with inputs := rest, tInitMs := v }) ∧
    (i = 15 → step s = .next { s with inputs := rest, nSync := v }) ∧
    (i = 19 → step s = .next { s with inputs := rest, datainPin := v.extractLsb' 0 8 })

/-- Writes to registers that are read-only, write-only but for `CTRL`, or no registers (25 and above), and every register
write while `BUSY = 1`, are ignored (decisions D3, D25 of the spec). -/
def Obligations.OtherRegisterWritesAreIgnored : Prop :=
  ∀ (s : State) (i : Nat) (v : U32) (rest : List Input), s.inputs = .host (.regWrite i v) :: rest → i ≠ 0 →
    (s.busy = true ∨ i ∉ [3, 5, 10, 11, 12, 13, 14, 15, 19]) → step s = .next { s with inputs := rest }

/-- `STATUS` shows `BUSY`, `DONE`, `ERR`, `INITED`, `PINERR`, `BAUDWARN`, `CS` and the code of the phase, each in its place, and
zero elsewhere; reading it changes nothing but the host's data. The codes are those of the phase table, every phase having
one (decisions D3 and D27 of the spec). -/
def Obligations.StatusShowsEveryFlag : Prop :=
  ∀ (s : State) (rest : List Input), s.inputs = .host (.regRead 1) :: rest →
    ∃ v : U32, step s = .next { s with inputs := rest, rdata := v } ∧
      v.getLsbD 0 = s.busy ∧ v.getLsbD 1 = s.done ∧ v.getLsbD 2 = s.err ∧ v.getLsbD 3 = s.inited ∧
      v.getLsbD 4 = pinErr s ∧ v.getLsbD 5 = baudWarn s ∧ v.getLsbD 6 = s.cs ∧ v.getLsbD 7 = false ∧
      (∀ entry ∈ phaseTable, s.phase = entry.1 → (v.extractLsb' 8 8).toNat = entry.2) ∧ s.phase ∈ phaseTable.map Prod.fst ∧
      v.extractLsb' 16 16 = 0

/-- A `RegRead` of any number gives the host the value of that register and changes nothing else. The diagnostic, result and
descriptor registers show their state in the fields of the register map, `FAIL_PHASE` by the codes of the phase table, and
the RW registers the value they hold; numbers 25 and above, and `CTRL`, read zero (decisions D3 and D27 of the spec). -/
def Obligations.ReadOnlyRegistersShowTheirFields : Prop :=
  ∀ s : State,
    (∀ (i : Nat) (rest : List Input), s.inputs = .host (.regRead i) :: rest →
      step s = .next { s with inputs := rest, rdata := regRead i s }) ∧
    regRead 3 s = s.blkaddr ∧ regRead 5 s = s.baudHz ∧ regRead 10 s = s.tReadyMs ∧ regRead 11 s = s.nR1 ∧
    regRead 12 s = s.nToken ∧ regRead 13 s = s.nProg ∧ regRead 14 s = s.tInitMs ∧ regRead 15 s = s.nSync ∧
    (regRead 19 s).toNat = s.datainPin.toNat ∧
    (regRead 2 s).toNat = (errCode s.errcode).toNat ∧ (regRead 4 s).toNat = s.rcrc.toNat ∧
    (regRead 6 s).getLsbD 0 = s.cd.isHc ∧ (regRead 6 s).extractLsb' 1 2 = s.cd.csdVer ∧
    (regRead 6 s).extractLsb' 3 29 = 0 ∧
    regRead 7 s = s.cd.sizefield ∧ regRead 8 s = s.cd.blockcount ∧ regRead 9 s = s.cd.bytesize ∧
    (regRead 16 s).extractLsb' 0 8 = s.lastR1 ∧ (regRead 16 s).extractLsb' 8 8 = s.lastRx ∧
    (∀ entry ∈ phaseTable, s.failPhase = entry.1 → ((regRead 16 s).extractLsb' 16 8).toNat = entry.2) ∧
    s.failPhase ∈ phaseTable.map Prod.fst ∧ (regRead 16 s).extractLsb' 24 8 = 0 ∧
    regRead 17 s = s.diagIfcond ∧ regRead 18 s = s.diagOcr ∧
    regRead 21 s ++ regRead 22 s ++ regRead 23 s ++ regRead 24 s = s.diagCsd ∧
    regRead 0 s = 0 ∧ ∀ i, 25 ≤ i → regRead i s = 0

/-- `BufWrite(k, v)` then `BufRead(j)` while `BUSY = 0`: the host reads back what it wrote, every other byte of `BUF` is as
before, and nothing else of the controller changes. While `BUSY = 1` the write is ignored (decision D30 of the spec). -/
def Obligations.BufferWriteThenRead : Prop :=
  ∀ (s : State) (k j : BitVec 9) (v : Byte) (rest : List Input),
    (s.busy = false → s.inputs = .host (.bufWrite k v) :: .host (.bufRead j) :: rest →
      ∃ t, runSteps 2 s = .next t ∧ t.rdata.toNat = (if j = k then v else bufByte s j).toNat ∧
        (∀ m, bufByte t m = if m = k then v else bufByte s m) ∧
        t = { s with inputs := rest, buf := t.buf, rdata := t.rdata, draws := s.draws + 1 }) ∧
    (s.busy = true → s.inputs = .host (.bufWrite k v) :: rest → step s = .next { s with inputs := rest })

/-- BUILD_CONFIG: the three other pins follow the data-in pin by fixed offset, modulo 256 (the register is decision D31 of
the spec). That pin 4 is valid, so `PINERR` is clear there, is the model's deduction from the spec's worked example (log entry
1, DEDUCED and unsafe). -/
def Obligations.PinsFollowTheDataInPin : Prop :=
  ∀ s : State,
    ((regRead 20 s).extractLsb' 0 8).toNat = s.datainPin.toNat ∧
    ((regRead 20 s).extractLsb' 8 8).toNat = (s.datainPin.toNat + 1) % 256 ∧
    ((regRead 20 s).extractLsb' 16 8).toNat = (s.datainPin.toNat + 2) % 256 ∧
    ((regRead 20 s).extractLsb' 24 8).toNat = (s.datainPin.toNat + 3) % 256 ∧
    (s.datainPin = 4 → regRead 20 s = 0x07060504 ∧ pinErr s = false)

/-- `BAUDWARN` is clear exactly on the closed range from 100 kHz to 10 MHz (the flag is decision D31 of the spec). -/
def Obligations.BaudWarningOutsideTheRange : Prop :=
  ∀ s : State, (regRead 1 s).getLsbD 5 = false ↔ 100000 ≤ s.baudHz.toNat ∧ s.baudHz.toNat ≤ 10000000

/-! ## The command frames -/

/-- Every command frame asserts chip-select in the phase of its step. Commands 0 and 8 go to the frame without a ready wait,
so without a time reading; the seven others go to the ready wait first. Everything not named is unchanged. -/
def Obligations.CommandFramesBeginTheirPhase : Prop :=
  ∀ (s : State) (arg : U32),
    exec .cmd0 s = .next { s with
      cs := true, trace := .csAssert :: s.trace, cmd := .cmd0, phase := .iReset, ctl := .frame 0 } ∧
    exec .cmd8 s = .next { s with
      cs := true, trace := .csAssert :: s.trace, cmd := .cmd8, phase := .iIfCond, ctl := .frame 0 } ∧
    exec .cmd55 s = .next { s with
      cs := true, trace := .csAssert :: s.trace, cmd := .cmd55, phase := .iAppCmd, ctl := .readyTime } ∧
    exec .acmd41 s = .next { s with
      cs := true, trace := .csAssert :: s.trace, cmd := .acmd41, phase := .iOpCond, ctl := .readyTime } ∧
    exec .cmd58 s = .next { s with
      cs := true, trace := .csAssert :: s.trace, cmd := .cmd58, phase := .iOcr, ctl := .readyTime } ∧
    exec .cmd9 s = .next { s with
      cs := true, trace := .csAssert :: s.trace, cmd := .cmd9, phase := .iCsd, ctl := .readyTime } ∧
    exec .cmd16 s = .next { s with
      cs := true, trace := .csAssert :: s.trace, cmd := .cmd16, phase := .iSetBlk, ctl := .readyTime } ∧
    exec (.cmd17 arg) s = .next { s with
      cs := true, trace := .csAssert :: s.trace, cmd := .cmd17, phase := .commandSent, ctl := .readyTime } ∧
    exec (.cmd24 arg) s = .next { s with
      cs := true, trace := .csAssert :: s.trace, cmd := .cmd24, phase := .commandSent, ctl := .readyTime }

/-- CMD_PHASE after the ready wait: the six bytes of FRAME in order, then one flush byte, whatever is received for them;
then WAIT_R1 begins with `r1 = 0xFF` and `cnt = 0`. Nothing else changes. -/
def Obligations.FrameAndFlushAreSentInOrder : Prop :=
  ∀ s : State, s.ctl = .frame 0 → ∃ (t : State) (received : List Byte),
    controllerRun 7 s = .next t ∧ received.length = 7 ∧ received.take s.rxQueue.length = s.rxQueue.take 7 ∧
    t = { s with
      lastRx := received.getD 6 0, rxQueue := s.rxQueue.drop 7, draws := s.draws + 7
      trace := exchanges [frameByte s.frame 0, frameByte s.frame 1, frameByte s.frame 2, frameByte s.frame 3,
        frameByte s.frame 4, frameByte s.frame 5, 0xFF] received ++ s.trace
      r1 := 0xFF, cnt := 0, ctl := .waitR1 }

/-! ## The bytes of the bus -/

/-- A valid R1 byte ends WAIT_R1 with that byte; nothing else changes. At any other control point it has no effect (the
model's reading, log entry 14). -/
def Obligations.R1ByteEndsItsWait : Prop :=
  ∀ (s : State) (status : BitVec 7),
    (s.ctl = .waitR1 → exec (.r1 status) s = .next { s with
      r1 := 0#1 ++ status, lastR1 := 0#1 ++ status, ctl := .afterR1 }) ∧
    (s.ctl ≠ .waitR1 → exec (.r1 status) s = .next s)

/-- The data-start token ends WAIT_TOKEN: the CSD bytes follow for command 9, the payload burst for any other command.
Where WRITE sends it, it is one exchange of 0xFE and the payload follows. At any other control point it has no effect (the
model's reading, log entry 14). -/
def Obligations.DataStartTokenActs : Prop :=
  ∀ s : State,
    (s.ctl = .waitToken → s.cmd = .cmd9 → exec .dataStart s = .next { s with ctl := .csd 0 }) ∧
    (s.ctl = .waitToken → s.cmd ≠ .cmd9 → exec .dataStart s = .next { s with phase := .transfer, ctl := .burst }) ∧
    (s.ctl = .token → exec .dataStart s = .next { s with
      lastRx := rxNext s, rxQueue := s.rxQueue.tail, draws := s.draws + 1, trace := .xchg 0xFE (rxNext s) :: s.trace
      phase := .transfer, ctl := .payloadOut 0 }) ∧
    (s.ctl ≠ .waitToken → s.ctl ≠ .token → exec .dataStart s = .next s)

/-- An accepting data-response byte starts the programming wait from zero, whatever its bits 7:5. At any other control
point it has no effect (the model's reading, log entry 14). -/
def Obligations.AcceptedResponseStartsTheProgrammingWait : Prop :=
  ∀ (s : State) (ignored : BitVec 3),
    (s.ctl = .response → exec (.dataResponseAccepted ignored) s = .next { s with
      phase := .programWait, cnt := 0, ctl := .waitProg }) ∧
    (s.ctl ≠ .response → exec (.dataResponseAccepted ignored) s = .next s)

/-- The idle byte ends WAIT_READY, the frame following, and WAIT_PROG, RELEASE following with no error. At any other control
point it has no effect (the model's reading, log entry 14). -/
def Obligations.IdleByteEndsItsWaits : Prop :=
  ∀ s : State,
    (s.ctl = .readyPoll → exec .idle s = .next { s with ctl := .frame 0 }) ∧
    (s.ctl = .waitProg → exec .idle s = .next { s with ctl := .release none }) ∧
    (s.ctl ≠ .readyPoll → s.ctl ≠ .waitProg → exec .idle s = .next s)

/-! ## The waits -/

/-- WAIT_R1 exchanges idle bytes until the first received byte whose high bit is clear and
returns exactly that byte, no later byte being read; if no byte within the bound has it clear, it makes exactly as many
exchanges as the bound and returns the last byte observed; with a bound of 0 it makes none and returns 0xFF.
`DIAG.LAST_R1` takes the result; no time is read. (The order of the tests and the bound of 0 are decision D8 of the spec.) -/
def Obligations.WaitR1ReturnsFirstValidOrLastByte : Prop :=
  ∀ (s : State) (busyBytes rest : List Byte) (b : Byte),
    s.ctl = .waitR1 → s.cnt = 0 → (∀ x ∈ busyBytes, x.msb = true) →
    (s.rxQueue = busyBytes ++ b :: rest → b.msb = false → busyBytes.length < s.nR1.toNat →
      controllerRun (busyBytes.length + 1) s = .next { s with
        r1 := b, lastR1 := b, lastRx := b, cnt := BitVec.ofNat 32 (busyBytes.length + 1), rxQueue := rest
        draws := s.draws + busyBytes.length + 1
        trace := .xchg 0xFF b :: exchanges (busyBytes.map fun _ => 0xFF) busyBytes ++ s.trace
        ctl := .afterR1 }) ∧
    (s.rxQueue = busyBytes ++ b :: rest → b.msb = true → busyBytes.length + 1 = s.nR1.toNat →
      controllerRun (busyBytes.length + 2) s = .next { s with
        r1 := b, lastR1 := b, lastRx := b, cnt := s.nR1, rxQueue := rest
        draws := s.draws + busyBytes.length + 1
        trace := .xchg 0xFF b :: exchanges (busyBytes.map fun _ => 0xFF) busyBytes ++ s.trace
        ctl := .afterR1 }) ∧
    (s.nR1 = 0 → s.r1 = 0xFF → controllerRun 1 s = .next { s with lastR1 := 0xFF, ctl := .afterR1 })

/-- R123: WAIT_TOKEN exchanges idle bytes until one answer is 0xFE, any other byte continuing the wait, and the exchange that
receives the token is its last; when the bound is exhausted the caller fails with `TokenTimeout`, through RELEASE. -/
def Obligations.WaitTokenFindsTokenOrTimesOut : Prop :=
  ∀ (s : State) (others rest : List Byte),
    s.ctl = .waitToken → s.cnt = 0 → s.cs = true → (∀ x ∈ others, x ≠ 0xFE) →
    (s.rxQueue = others ++ 0xFE :: rest → others.length < s.nToken.toNat →
      ∃ t, controllerRun (others.length + 1) s = .next t ∧ t.rxQueue = rest ∧
        t.ctl = (if s.cmd = .cmd9 then .csd 0 else .burst) ∧
        t.trace = .xchg 0xFF 0xFE :: exchanges (others.map fun _ => 0xFF) others ++ s.trace ∧ t.cs = true) ∧
    (s.rxQueue = others ++ rest → others.length = s.nToken.toNat →
      ∃ t, controllerRun (others.length + 1) s = .next t ∧ t.rxQueue = rest ∧
        t.ctl = .release (some .tokenTimeout) ∧
        t.trace = exchanges (others.map fun _ => 0xFF) others ++ s.trace)

/-- R175: WAIT_PROG exchanges idle bytes until one answer is 0xFF, and WRITE then releases and completes with `OK`; when the
bound is exhausted WRITE fails with `BusyTimeout` after RELEASE. -/
def Obligations.ProgrammingWaitEndsOrTimesOut : Prop :=
  ∀ (s : State) (busyBytes rest : List Byte) (flush : Byte),
    s.ctl = .waitProg → s.cnt = 0 → s.cs = true → s.cmd = .cmd24 → (∀ x ∈ busyBytes, x ≠ 0xFF) →
    (s.rxQueue = busyBytes ++ 0xFF :: flush :: rest → busyBytes.length < s.nProg.toNat →
      ∃ t, controllerRun (busyBytes.length + 3) s = .next t ∧ t.errcode = none ∧ t.done = true ∧ t.busy = false ∧
        t.cs = false ∧ t.phase = .done ∧ t.buf = s.buf ∧ t.rxQueue = rest ∧
        t.trace = .xchg 0xFF flush :: .csDeassert :: .xchg 0xFF 0xFF ::
          exchanges (busyBytes.map fun _ => 0xFF) busyBytes ++ s.trace) ∧
    (s.rxQueue = busyBytes ++ flush :: rest → busyBytes.length = s.nProg.toNat →
      ∃ t, controllerRun (busyBytes.length + 3) s = .next t ∧ t.errcode = some .busyTimeout ∧ t.done = true ∧
        t.busy = false ∧ t.cs = false ∧ t.phase = .failed ∧ t.failPhase = s.phase ∧ t.buf = s.buf ∧ t.rxQueue = rest ∧
        t.trace = .xchg 0xFF flush :: .csDeassert :: exchanges (busyBytes.map fun _ => 0xFF) busyBytes ++ s.trace)

/-- WAIT_READY reads the time once, then polls; busy bytes answered within the bound continue the wait, one time reading
after each, and the first idle byte ends it whatever the time, with no reading after it, the frame following. The trace has
the events in that order, and nothing not named changes. (That the exchange comes first and the time is tested after a busy
byte only is decision D8 of the spec.) -/
def Obligations.ReadyWaitEndsOnAnIdleByte : Prop :=
  ∀ (s : State) (busyBytes rest : List Byte) (start : U32) (readings times : List U32),
    s.ctl = .readyTime → s.timeQueue = start :: (readings ++ times) → s.rxQueue = busyBytes ++ 0xFF :: rest →
    readings.length = busyBytes.length → (∀ x ∈ busyBytes, x ≠ 0xFF) → (∀ r ∈ readings, r - start < s.tReadyMs) →
    controllerRun (2 * busyBytes.length + 2) s = .next { s with
      t0 := start, lastRx := 0xFF, rxQueue := rest, timeQueue := times, draws := s.draws + 2 * busyBytes.length + 2
      trace := .xchg 0xFF 0xFF :: busyPolls busyBytes readings ++ .now start :: s.trace
      ctl := .frame 0 }

/-- A busy answer with the bound spent ends WAIT_READY: no frame byte is sent, chip-select is released and flushed, the command
phase returns 0xFF for `r1`, and the operation completes with `BusyTimeout`; WAIT_R1 did not run, so `DIAG.LAST_R1` stays (the
code is decision D11 of the spec). -/
def Obligations.ReadyWaitExpiryIsBusyTimeout : Prop :=
  ∀ (s : State) (b flush : Byte) (rest : List Byte) (reading : U32) (times : List U32),
    s.ctl = .readyPoll → s.cs = true → s.rxQueue = b :: flush :: rest → b ≠ 0xFF → s.timeQueue = reading :: times →
    s.tReadyMs ≤ reading - s.t0 →
    ∃ t, controllerRun 4 s = .next t ∧ t.errcode = some .busyTimeout ∧ t.err = true ∧ t.done = true ∧ t.busy = false ∧
      t.cs = false ∧ t.phase = .failed ∧ t.failPhase = s.phase ∧ t.ctl = .idle ∧ t.buf = s.buf ∧ t.rcrc = s.rcrc ∧
      t.r1 = 0xFF ∧ t.lastR1 = s.lastR1 ∧ t.lastRx = flush ∧
      t.trace = .xchg 0xFF flush :: .csDeassert :: .now reading :: .xchg 0xFF b :: s.trace

/-- The counted waits end whatever the card sends, after at most as many exchanges as are left of their bound. -/
def Obligations.CountedWaitsTerminate : Prop :=
  ∀ s : State,
    (s.ctl = .waitR1 → ∃ n t, n ≤ s.nR1.toNat - s.cnt.toNat + 1 ∧ controllerRun n s = .next t ∧ t.ctl = .afterR1 ∧
      t.draws ≤ s.draws + (s.nR1.toNat - s.cnt.toNat)) ∧
    (s.ctl = .waitToken → ∃ n t, n ≤ s.nToken.toNat - s.cnt.toNat + 1 ∧ controllerRun n s = .next t ∧
      t.ctl ≠ .waitToken ∧ t.draws ≤ s.draws + (s.nToken.toNat - s.cnt.toNat)) ∧
    (s.ctl = .waitProg → ∃ n t, n ≤ s.nProg.toNat - s.cnt.toNat + 1 ∧ controllerRun n s = .next t ∧
      t.ctl ≠ .waitProg ∧ t.draws ≤ s.draws + (s.nProg.toNat - s.cnt.toNat))

/-! ## The failure exit and EXECUTE -/

/-- When an error is raised with chip-select asserted, RELEASE is performed first (`CS_DEASSERT`, one exchange of the idle byte,
its answer discarded) and then COMPLETION with the code; with chip-select deasserted COMPLETION alone. Nothing else is
changed. `DIAG.LAST_RX` takes the flush byte, but for `WriteRejected`, where it keeps the data-response byte before it: the
model's choice between two places of the spec (log entry 18, DESIGN CHOICE). -/
def Obligations.FailureExitReleasesThenCompletes : Prop :=
  ∀ (e : ErrorKind) (s : State),
    (s.cs = true → controllerRun 2 (raise e s) = .next { s with
      cs := false, lastRx := if e = .writeRejected then s.lastRx else rxNext s
      rxQueue := s.rxQueue.tail, draws := s.draws + 1
      trace := .xchg 0xFF (rxNext s) :: .csDeassert :: s.trace
      errcode := some e, err := true, done := true, busy := false, phase := .failed, failPhase := s.phase
      ctl := .idle }) ∧
    (s.cs = false → raise e s = { s with
      errcode := some e, err := true, done := true, busy := false, phase := .failed, failPhase := s.phase
      ctl := .idle })

/-- EXECUTE with a reply receives four bytes, kept in order of arrival, whatever `r1` is, and then releases (that the reply
is read after an invalid `r1` too is decision D32 of the spec); EXECUTE without one, for commands 0, 55, 41 and 16, releases
at once. RELEASE deasserts chip-select and then makes one exchange of the idle byte, with chip-select deasserted, before the
caller goes on. -/
def Obligations.ReplyIsKeptInOrder : Prop :=
  (∀ (s : State) (b0 b1 b2 b3 : Byte) (rest : List Byte),
    s.ctl = .afterR1 → (s.cmd = .cmd8 ∨ s.cmd = .cmd58) → s.rxQueue = b0 :: b1 :: b2 :: b3 :: rest →
    controllerRun 5 s = .next { s with
      rep := b0 ++ b1 ++ b2 ++ b3, lastRx := b3, rxQueue := rest, draws := s.draws + 4
      trace := exchanges [0xFF, 0xFF, 0xFF, 0xFF] [b0, b1, b2, b3] ++ s.trace
      ctl := .release none }) ∧
  (∀ s : State, s.ctl = .afterR1 → s.cmd ∈ [.cmd0, .cmd55, .acmd41, .cmd16] →
    controllerStep s = .next { s with ctl := .release none }) ∧
  (∀ (s : State) (b : Byte) (rest : List Byte), s.ctl = .release none → s.rxQueue = b :: rest →
    controllerStep s = .next { s with cs := false, trace := .csDeassert :: s.trace, ctl := .flush none } ∧
    ∃ t, controllerRun 2 s = .next t ∧ t.cs = false ∧ t.trace = .xchg 0xFF b :: .csDeassert :: s.trace ∧ t.lastRx = b ∧
      t.rxQueue = rest ∧ t.draws = s.draws + 1 ∧ t.r1 = s.r1 ∧ t.buf = s.buf ∧ t.rcrc = s.rcrc ∧ t.cd = s.cd)

/-! ## INIT -/

/-- Step 1 sends exactly `N_SYNC` idle bytes with chip-select as it is, and then goes to command 0. -/
def Obligations.SyncSendsExactlyNSyncIdleBytes : Prop :=
  ∀ (s : State) (received rest : List Byte),
    s.ctl = .sync 0 → s.rxQueue = received ++ rest → received.length = s.nSync.toNat →
    ∃ t, controllerRun (received.length + 1) s = .next t ∧ t.ctl = .encode 0 0 ∧ t.cmd = .cmd0 ∧ t.rxQueue = rest ∧ t.cs = s.cs ∧
      t.trace = exchanges (received.map fun _ => 0xFF) received ++ s.trace

/-- What `r1` means at each step of INIT, once its transaction is released: steps 2 and 3 fail only on bit 7, the R1 of
command 55 is ignored, a zero R1 of command 41 ends the loop, steps 5 and 7 need zero; a failure is `CommandRejected`
(decision D12 of the spec). The reply of command 8 is stored before the test, that of command 58 only after it, and its bit
6 of byte 0 is the addressing mode. (The numbers of the commands that follow and the argument 0 of commands 58 and 9 are
general knowledge, log entry 8, PRESUMED.) -/
def Obligations.InitStepsTestR1 : Prop :=
  ∀ s : State, s.ctl = .flush none → s.cs = false →
    (s.cmd = .cmd0 → controllerStep s = .next (if s.r1.msb then complete (some .commandRejected) (exchange 0xFF s)
      else { exchange 0xFF s with cmd := .cmd8, ctl := .encode 8 0x1AA })) ∧
    (s.cmd = .cmd8 → controllerStep s = .next (if s.r1.msb then
        complete (some .commandRejected) { exchange 0xFF s with diagIfcond := s.rep }
      else { exchange 0xFF s with diagIfcond := s.rep, ctl := .initTime })) ∧
    (s.cmd = .cmd55 → controllerStep s = .next { exchange 0xFF s with
      cmd := .acmd41, ctl := .encode opcSdSendOpCond argOpCond }) ∧
    (s.cmd = .acmd41 → controllerStep s = .next (if s.r1 = 0 then
        { exchange 0xFF s with cmd := .cmd58, ctl := .encode opcReadOcr 0 }
      else { exchange 0xFF s with ctl := .budget })) ∧
    (s.cmd = .cmd58 → controllerStep s = .next (if s.r1 = 0 then { exchange 0xFF s with
        diagOcr := s.rep, w := { s.w with isHc := s.rep.getLsbD 30 }, cmd := .cmd9, ctl := .encode opcSendCsd 0 }
      else complete (some .commandRejected) (exchange 0xFF s))) ∧
    (s.cmd = .cmd16 → controllerStep s = .next (if s.r1 = 0 then { exchange 0xFF s with ctl := .raiseBaud }
      else complete (some .commandRejected) (exchange 0xFF s)))

/-- Step 4: `t0_init` is read once before the loop; after a nonzero answer to command 41 INIT fails with `Timeout` when the
elapsed time reaches `T_INIT_MS`, and else sends command 55 again and nothing before it (decisions D13, D14 of the spec; the
number and the argument 0 of command 55 are general knowledge, log entry 8, PRESUMED). -/
def Obligations.OperatingConditionLoopHasATimeBudget : Prop :=
  ∀ (s : State) (reading : U32) (times : List U32), s.timeQueue = reading :: times → s.cs = false →
    (s.ctl = .initTime → controllerStep s = .next { s with
      t0Init := reading, timeQueue := times, draws := s.draws + 1, trace := .now reading :: s.trace
      cmd := .cmd55, ctl := .encode opcAppCmd 0 }) ∧
    (s.ctl = .budget → reading - s.t0Init < s.tInitMs → controllerStep s = .next { s with
      timeQueue := times, draws := s.draws + 1, trace := .now reading :: s.trace
      cmd := .cmd55, ctl := .encode opcAppCmd 0 }) ∧
    (s.ctl = .budget → s.tInitMs ≤ reading - s.t0Init → controllerStep s = .next { s with
      timeQueue := times, draws := s.draws + 1, trace := .now reading :: s.trace
      errcode := some .timeout, err := true, done := true, busy := false, phase := .failed, failPhase := s.phase
      ctl := .idle })

/-- The CSD parse: for version 1 a 22-bit size field from bytes 7 to 9, `blockCount = (sizeField + 1) * 1024` and
`byteSize = blockCount * 512`, modulo 2^32; for every other version zero sizes (placement of the fields and the other
versions are general knowledge and decisions D17 to D19 of the spec). -/
def Obligations.CsdParseGivesTheCapacity : Prop :=
  ∀ (csd : BitVec 128) (w : Descriptor),
    (parseCsd csd w).isHc = w.isHc ∧ (parseCsd csd w).csdVer.toNat = (csdByte csd 0).toNat / 64 ∧
    ((csdByte csd 0).toNat / 64 = 1 →
      (parseCsd csd w).sizefield.toNat =
        (csdByte csd 7).toNat % 64 * 65536 + (csdByte csd 8).toNat * 256 + (csdByte csd 9).toNat ∧
      (parseCsd csd w).blockcount.toNat = ((parseCsd csd w).sizefield.toNat + 1) * 1024 % 2 ^ 32 ∧
      (parseCsd csd w).bytesize.toNat = (parseCsd csd w).blockcount.toNat * 512 % 2 ^ 32) ∧
    ((csdByte csd 0).toNat / 64 ≠ 1 →
      (parseCsd csd w).sizefield = 0 ∧ (parseCsd csd w).blockcount = 0 ∧ (parseCsd csd w).bytesize = 0)

/-- Step 6 after its token: eighteen exchanges of the idle byte, of which the first sixteen bytes are kept in order of arrival
and the two check bytes discarded without a test; chip-select is deasserted, then one flush byte sent, and the CSD is parsed
into the working copy; step 7 follows only for a card that is not high-capacity (decisions D20, D21 of the spec; the number
and the argument 0x200 of command 16 are general knowledge, log entry 8, PRESUMED). -/
def Obligations.CsdIsReadWithoutItsCheck : Prop :=
  ∀ (s : State) (csd : List Byte) (check0 check1 flush : Byte) (rest : List Byte),
    s.ctl = .csd 0 → s.cmd = .cmd9 → csd.length = 16 → s.rxQueue = csd ++ check0 :: check1 :: flush :: rest →
    ∃ t, controllerRun 20 s = .next t ∧ (∀ k : Fin 16, csdByte t.diagCsd k = csd.getD k.val 0) ∧
      t.w = parseCsd t.diagCsd s.w ∧ t.cs = false ∧ t.cd = s.cd ∧ t.buf = s.buf ∧ t.errcode = s.errcode ∧
      t.rxQueue = rest ∧ t.ctl = (if s.w.isHc then .raiseBaud else .encode opcSetBlocklen 0x200) ∧
      t.trace = .xchg 0xFF flush :: .csDeassert ::
        exchanges (List.replicate 18 0xFF) (csd ++ [check0, check1]) ++ s.trace

/-- Step 8: the rate of `BAUD_HZ` is requested whatever its value, then the working copy becomes the descriptor, `INITED` is
set and INIT completes with `OK`, all in one step (decision D16 of the spec). Nothing else changes. -/
def Obligations.InitCommitsTheDescriptor : Prop :=
  ∀ s : State, s.ctl = .raiseBaud →
    controllerRun 2 s = .next { s with
      curBaud := s.baudHz, trace := .setBaud s.baudHz :: s.trace, cd := s.w, inited := true
      errcode := none, err := false, done := true, busy := false, phase := .done, ctl := .idle }

/-! ## READ and WRITE -/

/-- R165: the two integrity tests of READ, in this order: a byte count other than 512 is `Inconsistent`, a `crc16` of the 512
bytes of `BUF` that differs from the wire's in any bit is `CrcMismatch`; either failure releases and flushes before it is
reported. Where both tests pass READ completes with `OK`. Nothing else changes. (`crc16` is the parameter of R12, whatever it
computes.) -/
def Obligations.BlockIsCheckedForCountThenValue : Prop :=
  ∀ s : State, s.ctl = .crcCheck → s.cmd = .cmd17 → s.cs = true →
    let e := if s.burstCount ≠ 512 then some ErrorKind.inconsistent
      else if Config.crc16 (bufBytes s) ≠ s.wireCrc then some ErrorKind.crcMismatch else none
    controllerRun 3 s = .next { s with
      cs := false, lastRx := rxNext s, rxQueue := s.rxQueue.tail, draws := s.draws + 1
      trace := .xchg 0xFF (rxNext s) :: .csDeassert :: s.trace
      errcode := e, err := e.isSome, done := true, busy := false
      phase := if e.isSome then .failed else .done
      failPhase := if e.isSome then s.phase else s.failPhase
      ctl := .idle }

/-- READ after its token: the transport fixes the count it delivers, exactly 512 where it cannot fall short (and where it says
more than a block, log entry 4, DESIGN CHOICE); the `n` payload bytes it delivers go into `BUF`, the two check bytes to `RCRC`,
high byte first, and then `n` other than 512 is `Inconsistent`, a check value other than `crc16` of `BUF` is `CrcMismatch`, in this
order, each reported after RELEASE; else READ completes with `OK`. Bytes of `BUF` at and above `n` keep their value. (The
count of a burst is decision D6 of the spec; that the check field is read after a short one too, and the order that follows,
is decision D22.) -/
def Obligations.ReadReceivesAndChecksTheBlock : Prop :=
  (∀ s : State, s.ctl = .burst → controllerStep s = .next { s with
      burstCount := if Config.shortReadPossible = true ∧ burstNext s ≤ 512 then burstNext s else 512
      burstQueue := s.burstQueue.tail, draws := s.draws + 1, ctl := .payloadIn 0 }) ∧
  (∀ (s : State) (payload : List Byte) (hi lo flush : Byte) (rest : List Byte),
    s.ctl = .payloadIn 0 → s.cmd = .cmd17 → s.cs = true → s.burstCount ≤ 512 → payload.length = s.burstCount.toNat →
    s.rxQueue = payload ++ hi :: lo :: flush :: rest →
    ∃ t, controllerRun (s.burstCount.toNat + 6) s = .next t ∧
      (∀ k : BitVec 9, bufByte t k = if k.toNat < s.burstCount.toNat then payload.getD k.toNat 0 else bufByte s k) ∧
      t.rcrc = hi ++ lo ∧ t.cs = false ∧ t.done = true ∧ t.busy = false ∧ t.ctl = .idle ∧ t.rxQueue = rest ∧
      t.err = t.errcode.isSome ∧ t.phase = (if t.errcode.isSome then .failed else .done) ∧
      t.errcode = (if s.burstCount ≠ 512 then some .inconsistent
        else if Config.crc16 (bufBytes t) ≠ hi ++ lo then some .crcMismatch else none) ∧
      t.trace = .xchg 0xFF flush :: .csDeassert :: .xchg 0xFF lo :: .xchg 0xFF hi ::
        exchanges (payload.map fun _ => 0xFF) payload ++ s.trace)

/-- R173: immediately after WAIT_R1 returns zero the data packet is sent, the token 0xFE, `BUF[0]` to `BUF[511]`, and
`crc16(BUF)` high byte first: 515 exchanges whose received bytes are discarded, with no idle byte before them and no test
between them; `BUF` is unchanged. (`crc16` is the parameter of R12, whatever it computes.) -/
def Obligations.WriteSendsTheDataPacket : Prop :=
  ∀ (s : State) (received rest : List Byte),
    s.ctl = .afterR1 → s.cmd = .cmd24 → s.r1 = 0 → s.rxQueue = received ++ rest → received.length = 515 →
    controllerRun 517 s = .next { s with
      lastRx := received.getD 514 0, rxQueue := rest, draws := s.draws + 515
      trace := exchanges (0xFE :: bufBytes s ++
        [(Config.crc16 (bufBytes s)).extractLsb' 8 8, (Config.crc16 (bufBytes s)).extractLsb' 0 8]) received ++ s.trace
      phase := .responseCheck, ctl := .response }

/-- The data-response byte is the one byte received after the packet: low five bits `0b00101` go on to the programming wait,
anything else is `WriteRejected` after RELEASE (the pattern is general knowledge, log entry 8; no polling is decision D34 of
the spec). -/
def Obligations.DataResponseDecidesTheWrite : Prop :=
  ∀ (s : State) (b : Byte) (rest : List Byte), s.ctl = .response → s.cs = true → s.rxQueue = b :: rest →
    (b.toNat % 32 = 5 → controllerStep s = .next { s with
      lastRx := b, rxQueue := rest, draws := s.draws + 1, trace := .xchg 0xFF b :: s.trace
      phase := .programWait, cnt := 0, ctl := .waitProg }) ∧
    (b.toNat % 32 ≠ 5 → controllerStep s = .next { s with
      lastRx := b, rxQueue := rest, draws := s.draws + 1, trace := .xchg 0xFF b :: s.trace
      ctl := .release (some .writeRejected) })

/-- A nonzero R1 rejects READ and WRITE with `CommandRejected`, in phase `R1_RECEIVED` and through RELEASE; a zero R1 goes on to
the token wait of READ and to the data packet of WRITE. The CSD read of INIT tests its R1 as READ does, in its own phase
(decision D21 of the spec). -/
def Obligations.TransfersRejectNonzeroR1 : Prop :=
  ∀ s : State, s.ctl = .afterR1 → s.cs = true →
    (s.r1 ≠ 0 → s.cmd = .cmd17 ∨ s.cmd = .cmd24 → controllerRun 2 s = .next { s with
      phase := .r1Received, ctl := .release (some .commandRejected) }) ∧
    (s.r1 = 0 → s.cmd = .cmd17 → controllerRun 2 s = .next { s with phase := .tokenWait, cnt := 0, ctl := .waitToken }) ∧
    (s.r1 = 0 → s.cmd = .cmd24 → controllerRun 2 s = .next { s with phase := .tokenSent, ctl := .token }) ∧
    (s.r1 ≠ 0 → s.cmd = .cmd9 → controllerStep s = .next { s with ctl := .release (some .commandRejected) }) ∧
    (s.r1 = 0 → s.cmd = .cmd9 → controllerStep s = .next { s with cnt := 0, ctl := .waitToken })

/-! ## Errors and the whole machine -/

/-- `ERRCODE` reads 0 for `OK` and 1 to 8 in the order of the error table (decision D10 of the spec). -/
def Obligations.ErrorCodesFollowTheTable : Prop :=
  ∀ s : State,
    (s.errcode = none ↔ regRead 2 s = 0) ∧ (s.errcode = some .commandRejected ↔ regRead 2 s = 1) ∧
    (s.errcode = some .tokenTimeout ↔ regRead 2 s = 2) ∧ (s.errcode = some .inconsistent ↔ regRead 2 s = 3) ∧
    (s.errcode = some .crcMismatch ↔ regRead 2 s = 4) ∧ (s.errcode = some .rangeError ↔ regRead 2 s = 5) ∧
    (s.errcode = some .writeRejected ↔ regRead 2 s = 6) ∧ (s.errcode = some .busyTimeout ↔ regRead 2 s = 7) ∧
    (s.errcode = some .timeout ↔ regRead 2 s = 8)

/-- The invariant of the machine: canonical buffer memory, `BUSY` against control point and phase, `ERR` against `ERRCODE`,
chip-select against control point, a bracketed trace, the place of every command and phase, a zero descriptor before INIT,
and a verified READ. Every step keeps it, from every state that has it. -/
def Obligations.EveryStepKeepsTheInvariant : Prop :=
  ∀ s t : State, Inv s → step s = .next t → Inv t

/-- The state after reset has the invariant. -/
def Obligations.ResetHasTheInvariant : Prop := Inv State.reset

/-- From every state a step has a next state, but where the transport has stalled and the step needs an exchange of it: no
ordinary data ends a run, whatever FRAME or any register holds. -/
def Obligations.NoStepStopsButAHungTransport : Prop :=
  ∀ s : State,
    (∃ t, step s = .next t) ∨
    (step s = .fault .transportHung ∧ s.stalled = true ∧ exchangeDue s = true)

/-- The phase moves only along the edges of the phase diagram, but for reset. -/
def Obligations.PhaseFollowsItsDiagram : Prop :=
  ∀ s t : State, Inv s → step s = .next t → s.inputs.head? ≠ some .reset → phaseEdge s.phase t.phase = true

/-- R136: in every state of every run from reset, in every environment, chip-select is deasserted whenever `BUSY = 0`, and on
the trace since the last reset every assertion is matched by one deassertion before the next. -/
def Obligations.ChipSelectIsReleasedOnEveryPath : Prop :=
  ∀ (inputs : List Input) (rx : List Byte) (times : List U32) (bursts : List (BitVec 10)) (n : Nat) (t : State),
    runSteps n (bootWith inputs rx times bursts) = .next t →
    (t.busy = false → t.cs = false) ∧ traceCs t.trace = t.cs ∧ bracketed t.trace = true

/-- When an operation in flight ends, it does so once and whole: `DONE`, `ERR` and `ERRCODE` agree, the phase is `DONE` or
`FAILED`, chip-select is deasserted, and the outcome is one its rule allows: INIT never ends with `RangeError`,
`Inconsistent`, `CrcMismatch` or `WriteRejected`, READ and WRITE only with their own errors. -/
def Obligations.OperationsEndWithTheirOwnOutcomes : Prop :=
  ∀ s t : State, Inv s → step s = .next t → s.inputs.head? ≠ some .reset → s.busy = true → t.busy = false →
    t.done = true ∧ t.err = t.errcode.isSome ∧ t.phase = (if t.errcode.isSome then .failed else .done) ∧
    t.failPhase = (if t.errcode.isSome then s.phase else s.failPhase) ∧ t.cs = false ∧
    (s.curOp = .init → t.errcode ∈ [none, some .commandRejected, some .busyTimeout, some .timeout, some .tokenTimeout]) ∧
    (s.curOp = .read → t.errcode ∈ [none, some .busyTimeout, some .commandRejected, some .tokenTimeout,
      some .inconsistent, some .crcMismatch]) ∧
    (s.curOp = .write → t.errcode ∈ [none, some .busyTimeout, some .commandRejected, some .writeRejected])

/-- A READ that completes with `OK` leaves in `RCRC` the `crc16` of the 512 bytes in `BUF`, after a burst of exactly 512
bytes. -/
def Obligations.ReadOkMeansAVerifiedBlock : Prop :=
  ∀ s t : State, Inv s → step s = .next t → s.inputs.head? ≠ some .reset → s.busy = true → t.busy = false →
    s.curOp = .read → t.errcode = none → t.rcrc = Config.crc16 (bufBytes t) ∧ t.burstCount = 512

/-- `BUF` changes only by a host write while `BUSY = 0`, by a payload byte of READ, or by reset: never by WRITE or INIT. -/
def Obligations.OnlyReadAndHostWriteTheBuffer : Prop :=
  ∀ s t : State, step s = .next t →
    (∀ k, bufByte t k = bufByte s k) ∨ s.inputs.head? = some .reset ∨
    (s.busy = false ∧ ∃ k v rest, s.inputs = .host (.bufWrite k v) :: rest ∧
      ∀ j, bufByte t j = if j = k then v else bufByte s j) ∨
    (∃ k : BitVec 10, s.ctl = .payloadIn k ∧ k < s.burstCount ∧
      ∀ j, bufByte t j = if j = k.setWidth 9 then rxNext s else bufByte s j)

/-- The Card Descriptor changes only by INIT, zero at its START and whole at its end, or by reset. -/
def Obligations.OnlyInitWritesTheDescriptor : Prop :=
  ∀ s t : State, step s = .next t →
    t.cd = s.cd ∨ s.inputs.head? = some .reset ∨
    (s.busy = false ∧ t.cd = ⟨false, 0, 0, 0, 0⟩ ∧
      ∃ v rest, s.inputs = .host (.regWrite 0 v) :: rest ∧ v.toNat % 4 = 1) ∨
    (s.ctl = .commit ∧ t.cd = s.w ∧ t.inited = true ∧ t.errcode = none)

/-- No register the host configures changes while an operation runs, but by reset. -/
def Obligations.ConfigurationHoldsDuringAnOperation : Prop :=
  ∀ s t : State, step s = .next t → s.busy = true → s.inputs.head? ≠ some .reset →
    t.blkaddr = s.blkaddr ∧ t.baudHz = s.baudHz ∧ t.tReadyMs = s.tReadyMs ∧ t.nR1 = s.nR1 ∧ t.nToken = s.nToken ∧
    t.nProg = s.nProg ∧ t.tInitMs = s.tInitMs ∧ t.nSync = s.nSync ∧ t.datainPin = s.datainPin

/-- Between operations no bus event happens, whatever the host does, and chip-select stays deasserted; reset makes none
either. -/
def Obligations.NoBusEventBetweenOperations : Prop :=
  ∀ s t : State, Inv s → s.busy = false → step s = .next t →
    t.cs = false ∧ (t.trace = s.trace ∨ (s.inputs.head? = some .reset ∧ t.trace = []))

/-- A step makes at most one bus event; at rest, with nothing pending, it changes nothing (the finer steps without an event
are the model's, log entry 11). -/
def Obligations.OneBusEventAtMostPerStep : Prop :=
  ∀ s t : State, step s = .next t →
    (t.trace = s.trace ∨ (∃ e, t.trace = e :: s.trace) ∨ (s.inputs.head? = some .reset ∧ t.trace = [])) ∧
    (s.ctl = .idle → s.inputs = [] → t = s)

/-- Where a word stands, a step runs the instruction it decodes to: an operation code written to `CTRL`, the frame in FRAME,
the operands of ENCODE, and the byte a wait receives (in the state in which its exchange is done). A frame in FRAME that is
none of the nine begins the command phase of the command that was called all the same, CMD_PHASE sending whatever FRAME holds
(that no such frame is ever met in a run is the model's deduction, log entry 17). -/
def Obligations.StepRunsTheDecodedInstruction : Prop :=
  ∀ (s : State) (i : Instr),
    (∀ (v : U32) (rest : List Input), s.inputs = .host (.regWrite 0 v) :: rest → decode .ctrl (.ctrl v) = .ok i →
      step s = exec i { s with inputs := rest }) ∧
    (s.inputs = [] → s.ctl = .command → decode .command (.frame s.frame) = .ok i → step s = exec i s) ∧
    (∀ r, s.inputs = [] → s.ctl = .command → decode .command (.frame s.frame) = .error r → step s = .next { s with
      cs := true, trace := .csAssert :: s.trace, phase := s.cmd.phase
      ctl := if s.cmd = .cmd0 ∨ s.cmd = .cmd8 then .frame 0 else .readyTime }) ∧
    (∀ o a, s.inputs = [] → s.ctl = .encode o a → i = .encode o a (checkByte o a) →
      step s = exec i { s with ctl := .command }) ∧
    (s.inputs = [] → s.stalled = false → s.ctl = .readyPoll → decode .ready (.byte (rxNext s)) = .ok i → step s = exec i (exchange 0xFF s)) ∧
    (s.inputs = [] → s.stalled = false → s.ctl = .waitR1 → s.cnt < s.nR1 → decode .r1 (.byte (rxNext s)) = .ok i →
      step s = exec i { exchange 0xFF s with r1 := rxNext s, cnt := s.cnt + 1 }) ∧
    (s.inputs = [] → s.stalled = false → s.ctl = .waitToken → s.cnt < s.nToken → decode .token (.byte (rxNext s)) = .ok i →
      step s = exec i { exchange 0xFF s with cnt := s.cnt + 1 }) ∧
    (s.inputs = [] → s.stalled = false → s.ctl = .token → decode .token (.byte 0xFE) = .ok i → step s = exec i s) ∧
    (s.inputs = [] → s.stalled = false → s.ctl = .response → decode .dataResponse (.byte (rxNext s)) = .ok i →
      step s = exec i (exchange 0xFF s)) ∧
    (s.inputs = [] → s.stalled = false → s.ctl = .waitProg → s.cnt < s.nProg → decode .programming (.byte (rxNext s)) = .ok i →
      step s = exec i { exchange 0xFF s with cnt := s.cnt + 1 })

/-- The inputs that are no host action: a turn is the controller's step and so is a step with nothing pending; `poll` repeats
until `DONE`; a transport that stalls leaves the controller stuck at the next exchange; reset abandons whatever runs, emits
no bus event, and gives every element of the controller, the configuration among them, its value after reset (R220 and R221
are decision D29 of the spec, R236 is decision D5). Turn, poll, reset and stall as entries of one list of inputs, the stall
that reset ends, the trace that begins again and the answers in store that stay are the model's (log entry 12, DESIGN
CHOICE), as is that the unspecified values are drawn anew (log entries 6 and 7). -/
def Obligations.InputsTakeTheirTurn : Prop :=
  ∀ (s : State) (rest : List Input),
    (s.inputs = [] → s.stalled = false → step s = controllerStep s) ∧
    (s.inputs = .turn :: rest → s.stalled = false → step s = controllerStep { s with inputs := rest }) ∧
    (s.inputs = .poll :: rest → s.done = true → step s = .next { s with inputs := rest, rdata := statusWord s }) ∧
    (s.inputs = .poll :: rest → s.done = false → s.stalled = false →
      step s = controllerStep { s with rdata := statusWord s }) ∧
    (s.inputs = .hang :: rest → step s = .next { s with inputs := rest, stalled := true }) ∧
    (s.inputs = [] → s.stalled = true → exchangeDue s = true → step s = .fault .transportHung) ∧
    (s.inputs = .reset :: rest → step s = .next { State.reset with
      curBaud := Config.freeBaud (s.resets + 1), resets := s.resets + 1, inputs := rest, rdata := s.rdata
      rxQueue := s.rxQueue, timeQueue := s.timeQueue, burstQueue := s.burstQueue, draws := s.draws })

/-- Every row of the reset table that gives a value: the host registers, `FRAME`, `DIAG_CSD0..3` and the other diagnostic
registers, chip-select, and the hidden state of R34, each at zero but the configuration; the OPEN rows hold their parameters.
Only `BUF` and `cur_baud`, which the table leaves unspecified, are left out. (All but the descriptor's values and the four
defaults are decision D29 of the spec; that the OPEN parameters are constants with no body is log entry 1.) -/
def Obligations.ResetGivesItsTable : Prop :=
  State.reset.phase = .idle ∧ State.reset.busy = false ∧ State.reset.done = false ∧ State.reset.err = false ∧
  State.reset.inited = false ∧ State.reset.errcode = none ∧ State.reset.cs = false ∧
  State.reset.cd = ⟨false, 0, 0, 0, 0⟩ ∧ regRead 1 State.reset &&& 0xFFFFFFCF = 0 ∧ regRead 2 State.reset = 0 ∧
  regRead 3 State.reset = 0 ∧ regRead 4 State.reset = 0 ∧ regRead 6 State.reset = 0 ∧ regRead 7 State.reset = 0 ∧
  regRead 8 State.reset = 0 ∧ regRead 9 State.reset = 0 ∧ regRead 10 State.reset = 500 ∧ regRead 11 State.reset = 1000 ∧
  regRead 12 State.reset = 100000 ∧ regRead 15 State.reset = 10 ∧ regRead 16 State.reset = 0 ∧
  regRead 17 State.reset = 0 ∧ regRead 18 State.reset = 0 ∧ regRead 21 State.reset = 0 ∧ regRead 22 State.reset = 0 ∧
  regRead 23 State.reset = 0 ∧ regRead 24 State.reset = 0 ∧
  regRead 5 State.reset = Config.defaultBaudHz ∧ regRead 13 State.reset = Config.nProgDefault ∧
  regRead 14 State.reset = Config.tInitMsDefault ∧ State.reset.datainPin = Config.datainPinDefault ∧
  State.reset.frame = 0 ∧ State.reset.lastR1 = 0 ∧ State.reset.lastRx = 0 ∧ State.reset.failPhase = .idle ∧
  State.reset.diagIfcond = 0 ∧ State.reset.diagOcr = 0 ∧ State.reset.diagCsd = 0 ∧
  State.reset.curOp = .nop ∧ State.reset.curBlk = 0 ∧ State.reset.cnt = 0 ∧ State.reset.t0 = 0 ∧
  State.reset.t0Init = 0 ∧ State.reset.burstCount = 0 ∧ State.reset.wireCrc = 0 ∧
  State.reset.w = ⟨false, 0, 0, 0, 0⟩ ∧ State.reset.r1 = 0
end

