-- ==== Sys2Proof/Laws/Decode.lean ====
section
/-! SUPPORT. The fields of a packed frame. -/

namespace Sys2Proof

open Machine

theorem frameMarker_packFrame (o : BitVec 6) (a : U32) (c : Byte) : frameMarker (packFrame o a c) = markerBits := by
  apply BitVec.eq_of_getLsbD_eq
  intro i hi
  simp only [frameMarker, packFrame, BitVec.getLsbD_extractLsb', BitVec.getLsbD_append]
  have h1 : ¬ 46 + i < 8 := by omega
  have h2 : ¬ 46 + i - 8 < 32 := by omega
  have h3 : ¬ 46 + i - 8 - 32 < 6 := by omega
  have h4 : 46 + i - 8 - 32 - 6 = i := by omega
  simp [h1, h2, h3, h4, hi]

theorem frameOpcode_packFrame (o : BitVec 6) (a : U32) (c : Byte) : frameOpcode (packFrame o a c) = o := by
  apply BitVec.eq_of_getLsbD_eq
  intro i hi
  simp only [frameOpcode, packFrame, BitVec.getLsbD_extractLsb', BitVec.getLsbD_append]
  have h1 : ¬ 40 + i < 8 := by omega
  have h2 : ¬ 40 + i - 8 < 32 := by omega
  have h3 : 40 + i - 8 - 32 = i := by omega
  simp [h1, h2, h3, hi]

theorem frameArg_packFrame (o : BitVec 6) (a : U32) (c : Byte) : frameArg (packFrame o a c) = a := by
  apply BitVec.eq_of_getLsbD_eq
  intro i hi
  simp only [frameArg, packFrame, BitVec.getLsbD_extractLsb', BitVec.getLsbD_append]
  have h1 : ¬ 8 + i < 8 := by omega
  have h2 : 8 + i - 8 = i := by omega
  simp [h1, h2, hi]

theorem frameCheck_packFrame (o : BitVec 6) (a : U32) (c : Byte) : frameCheck (packFrame o a c) = c := by
  apply BitVec.eq_of_getLsbD_eq
  intro i hi
  simp only [frameCheck, packFrame, BitVec.getLsbD_extractLsb', BitVec.getLsbD_append]
  simp [hi]

/-- A frame is its four fields. -/
theorem packFrame_fields {f : Frame} (h : frameMarker f = markerBits) :
    packFrame (frameOpcode f) (frameArg f) (frameCheck f) = f := by
  apply BitVec.eq_of_getLsbD_eq
  intro i hi
  rw [packFrame, ← h]
  simp only [frameMarker, frameOpcode, frameArg, frameCheck, BitVec.getLsbD_append, BitVec.getLsbD_extractLsb']
  by_cases h1 : i < 8
  · simp [h1]
  · by_cases h2 : i - 8 < 32
    · have : 8 + (i - 8) = i := by omega
      simp [h1, h2, this]
    · by_cases h3 : i - 8 - 32 < 6
      · have : 40 + (i - 8 - 32) = i := by omega
        simp [h1, h2, h3, this]
      · have h4 : i - 8 - 32 - 6 < 2 := by omega
        have : 46 + (i - 8 - 32 - 6) = i := by omega
        simp [h1, h2, h3, h4, this]

/-- The six bytes of a packed frame, in the order of sending. -/
theorem frameByte_packFrame (o : BitVec 6) (a : U32) (c : Byte) :
    frameByte (packFrame o a c) 0 = markerBits ++ o ∧ frameByte (packFrame o a c) 1 = a.extractLsb' 24 8 ∧
    frameByte (packFrame o a c) 2 = a.extractLsb' 16 8 ∧ frameByte (packFrame o a c) 3 = a.extractLsb' 8 8 ∧
    frameByte (packFrame o a c) 4 = a.extractLsb' 0 8 ∧ frameByte (packFrame o a c) 5 = c := by
  refine ⟨?_, ?_, ?_, ?_, ?_, ?_⟩ <;>
  · apply BitVec.eq_of_getLsbD_eq
    intro i hi
    simp only [frameByte, packFrame, BitVec.getLsbD_extractLsb', BitVec.getLsbD_append, markerBits]
    interval_cases i <;> simp [BitVec.getLsbD_eq_getElem]

/-- A frame of ENCODE is its fields, the last of them the check byte R112 selects. -/
theorem encodeFrame_eq (o : BitVec 6) (a : U32) : encodeFrame o a = packFrame o a (checkByte o a) := rfl

/-- The check byte of R112: the checksum of the first five bytes for opcodes 0 and 8, the fill byte for all others. -/
theorem checkByte_cases (o : BitVec 6) (a : U32) :
    ((o = 0 ∨ o = 8) ∧ checkByte o a = Config.crc7byte (firstFive o a)) ∨ (¬ (o = 0 ∨ o = 8) ∧ checkByte o a = 0xFF) := by
  by_cases h : o = 0 ∨ o = 8
  · refine .inl ⟨h, ?_⟩
    rcases h with rfl | rfl <;> rfl
  · have hm : crcMandatory o = false := by simpa [crcMandatory, opcGoIdle, opcSendIfCond] using h
    exact .inr ⟨h, by simp [checkByte, checkByteWith, hm, idleByte]⟩

theorem decodeCommand_encodeFrame (o : BitVec 6) (a : U32) : decodeCommand (encodeFrame o a) = commandOf o a := by
  cases h : crcMandatory o <;>
    simp [decodeCommand, encodeFrame, encodeFrameWith, checkByteWith, frameMarker_packFrame, frameOpcode_packFrame,
      frameArg_packFrame, frameCheck_packFrame, h]

end Sys2Proof
end

