-- ==== Sys2Proof/Laws/State.lean ====
section
/-! SUPPORT. One lemma per field per shared operation on the state, each true by unfolding, so that no later proof unfolds a
record update. -/

namespace Sys2Proof.Machine

/-! ## `exchange` -/

@[simp] theorem exchange_blkaddr (tx : Byte) (s : State) : (exchange tx s).blkaddr = s.blkaddr := rfl
@[simp] theorem exchange_rcrc (tx : Byte) (s : State) : (exchange tx s).rcrc = s.rcrc := rfl
@[simp] theorem exchange_baudHz (tx : Byte) (s : State) : (exchange tx s).baudHz = s.baudHz := rfl
@[simp] theorem exchange_tReadyMs (tx : Byte) (s : State) : (exchange tx s).tReadyMs = s.tReadyMs := rfl
@[simp] theorem exchange_nR1 (tx : Byte) (s : State) : (exchange tx s).nR1 = s.nR1 := rfl
@[simp] theorem exchange_nToken (tx : Byte) (s : State) : (exchange tx s).nToken = s.nToken := rfl
@[simp] theorem exchange_nProg (tx : Byte) (s : State) : (exchange tx s).nProg = s.nProg := rfl
@[simp] theorem exchange_tInitMs (tx : Byte) (s : State) : (exchange tx s).tInitMs = s.tInitMs := rfl
@[simp] theorem exchange_nSync (tx : Byte) (s : State) : (exchange tx s).nSync = s.nSync := rfl
@[simp] theorem exchange_datainPin (tx : Byte) (s : State) : (exchange tx s).datainPin = s.datainPin := rfl
@[simp] theorem exchange_busy (tx : Byte) (s : State) : (exchange tx s).busy = s.busy := rfl
@[simp] theorem exchange_done (tx : Byte) (s : State) : (exchange tx s).done = s.done := rfl
@[simp] theorem exchange_err (tx : Byte) (s : State) : (exchange tx s).err = s.err := rfl
@[simp] theorem exchange_inited (tx : Byte) (s : State) : (exchange tx s).inited = s.inited := rfl
@[simp] theorem exchange_errcode (tx : Byte) (s : State) : (exchange tx s).errcode = s.errcode := rfl
@[simp] theorem exchange_phase (tx : Byte) (s : State) : (exchange tx s).phase = s.phase := rfl
@[simp] theorem exchange_cd (tx : Byte) (s : State) : (exchange tx s).cd = s.cd := rfl
@[simp] theorem exchange_cs (tx : Byte) (s : State) : (exchange tx s).cs = s.cs := rfl
@[simp] theorem exchange_curBaud (tx : Byte) (s : State) : (exchange tx s).curBaud = s.curBaud := rfl
@[simp] theorem exchange_buf (tx : Byte) (s : State) : (exchange tx s).buf = s.buf := rfl
@[simp] theorem exchange_frame (tx : Byte) (s : State) : (exchange tx s).frame = s.frame := rfl
@[simp] theorem exchange_lastR1 (tx : Byte) (s : State) : (exchange tx s).lastR1 = s.lastR1 := rfl
@[simp] theorem exchange_lastRx (tx : Byte) (s : State) : (exchange tx s).lastRx = rxNext s := rfl
@[simp] theorem exchange_failPhase (tx : Byte) (s : State) : (exchange tx s).failPhase = s.failPhase := rfl
@[simp] theorem exchange_diagIfcond (tx : Byte) (s : State) : (exchange tx s).diagIfcond = s.diagIfcond := rfl
@[simp] theorem exchange_diagOcr (tx : Byte) (s : State) : (exchange tx s).diagOcr = s.diagOcr := rfl
@[simp] theorem exchange_diagCsd (tx : Byte) (s : State) : (exchange tx s).diagCsd = s.diagCsd := rfl
@[simp] theorem exchange_curOp (tx : Byte) (s : State) : (exchange tx s).curOp = s.curOp := rfl
@[simp] theorem exchange_curBlk (tx : Byte) (s : State) : (exchange tx s).curBlk = s.curBlk := rfl
@[simp] theorem exchange_cnt (tx : Byte) (s : State) : (exchange tx s).cnt = s.cnt := rfl
@[simp] theorem exchange_t0 (tx : Byte) (s : State) : (exchange tx s).t0 = s.t0 := rfl
@[simp] theorem exchange_t0Init (tx : Byte) (s : State) : (exchange tx s).t0Init = s.t0Init := rfl
@[simp] theorem exchange_burstCount (tx : Byte) (s : State) : (exchange tx s).burstCount = s.burstCount := rfl
@[simp] theorem exchange_wireCrc (tx : Byte) (s : State) : (exchange tx s).wireCrc = s.wireCrc := rfl
@[simp] theorem exchange_w (tx : Byte) (s : State) : (exchange tx s).w = s.w := rfl
@[simp] theorem exchange_r1 (tx : Byte) (s : State) : (exchange tx s).r1 = s.r1 := rfl
@[simp] theorem exchange_ctl (tx : Byte) (s : State) : (exchange tx s).ctl = s.ctl := rfl
@[simp] theorem exchange_cmd (tx : Byte) (s : State) : (exchange tx s).cmd = s.cmd := rfl
@[simp] theorem exchange_rep (tx : Byte) (s : State) : (exchange tx s).rep = s.rep := rfl
@[simp] theorem exchange_csd (tx : Byte) (s : State) : (exchange tx s).csd = s.csd := rfl
@[simp] theorem exchange_rdata (tx : Byte) (s : State) : (exchange tx s).rdata = s.rdata := rfl
@[simp] theorem exchange_inputs (tx : Byte) (s : State) : (exchange tx s).inputs = s.inputs := rfl
@[simp] theorem exchange_rxQueue (tx : Byte) (s : State) : (exchange tx s).rxQueue = s.rxQueue.tail := rfl
@[simp] theorem exchange_timeQueue (tx : Byte) (s : State) : (exchange tx s).timeQueue = s.timeQueue := rfl
@[simp] theorem exchange_burstQueue (tx : Byte) (s : State) : (exchange tx s).burstQueue = s.burstQueue := rfl
@[simp] theorem exchange_draws (tx : Byte) (s : State) : (exchange tx s).draws = s.draws + 1 := rfl
@[simp] theorem exchange_stalled (tx : Byte) (s : State) : (exchange tx s).stalled = s.stalled := rfl
@[simp] theorem exchange_resets (tx : Byte) (s : State) : (exchange tx s).resets = s.resets := rfl
@[simp] theorem exchange_trace (tx : Byte) (s : State) : (exchange tx s).trace = .xchg tx (rxNext s) :: s.trace := rfl

/-! ## `sampleTime` -/

@[simp] theorem sampleTime_blkaddr (s : State) : (sampleTime s).blkaddr = s.blkaddr := rfl
@[simp] theorem sampleTime_rcrc (s : State) : (sampleTime s).rcrc = s.rcrc := rfl
@[simp] theorem sampleTime_baudHz (s : State) : (sampleTime s).baudHz = s.baudHz := rfl
@[simp] theorem sampleTime_tReadyMs (s : State) : (sampleTime s).tReadyMs = s.tReadyMs := rfl
@[simp] theorem sampleTime_nR1 (s : State) : (sampleTime s).nR1 = s.nR1 := rfl
@[simp] theorem sampleTime_nToken (s : State) : (sampleTime s).nToken = s.nToken := rfl
@[simp] theorem sampleTime_nProg (s : State) : (sampleTime s).nProg = s.nProg := rfl
@[simp] theorem sampleTime_tInitMs (s : State) : (sampleTime s).tInitMs = s.tInitMs := rfl
@[simp] theorem sampleTime_nSync (s : State) : (sampleTime s).nSync = s.nSync := rfl
@[simp] theorem sampleTime_datainPin (s : State) : (sampleTime s).datainPin = s.datainPin := rfl
@[simp] theorem sampleTime_busy (s : State) : (sampleTime s).busy = s.busy := rfl
@[simp] theorem sampleTime_done (s : State) : (sampleTime s).done = s.done := rfl
@[simp] theorem sampleTime_err (s : State) : (sampleTime s).err = s.err := rfl
@[simp] theorem sampleTime_inited (s : State) : (sampleTime s).inited = s.inited := rfl
@[simp] theorem sampleTime_errcode (s : State) : (sampleTime s).errcode = s.errcode := rfl
@[simp] theorem sampleTime_phase (s : State) : (sampleTime s).phase = s.phase := rfl
@[simp] theorem sampleTime_cd (s : State) : (sampleTime s).cd = s.cd := rfl
@[simp] theorem sampleTime_cs (s : State) : (sampleTime s).cs = s.cs := rfl
@[simp] theorem sampleTime_curBaud (s : State) : (sampleTime s).curBaud = s.curBaud := rfl
@[simp] theorem sampleTime_buf (s : State) : (sampleTime s).buf = s.buf := rfl
@[simp] theorem sampleTime_frame (s : State) : (sampleTime s).frame = s.frame := rfl
@[simp] theorem sampleTime_lastR1 (s : State) : (sampleTime s).lastR1 = s.lastR1 := rfl
@[simp] theorem sampleTime_lastRx (s : State) : (sampleTime s).lastRx = s.lastRx := rfl
@[simp] theorem sampleTime_failPhase (s : State) : (sampleTime s).failPhase = s.failPhase := rfl
@[simp] theorem sampleTime_diagIfcond (s : State) : (sampleTime s).diagIfcond = s.diagIfcond := rfl
@[simp] theorem sampleTime_diagOcr (s : State) : (sampleTime s).diagOcr = s.diagOcr := rfl
@[simp] theorem sampleTime_diagCsd (s : State) : (sampleTime s).diagCsd = s.diagCsd := rfl
@[simp] theorem sampleTime_curOp (s : State) : (sampleTime s).curOp = s.curOp := rfl
@[simp] theorem sampleTime_curBlk (s : State) : (sampleTime s).curBlk = s.curBlk := rfl
@[simp] theorem sampleTime_cnt (s : State) : (sampleTime s).cnt = s.cnt := rfl
@[simp] theorem sampleTime_t0 (s : State) : (sampleTime s).t0 = s.t0 := rfl
@[simp] theorem sampleTime_t0Init (s : State) : (sampleTime s).t0Init = s.t0Init := rfl
@[simp] theorem sampleTime_burstCount (s : State) : (sampleTime s).burstCount = s.burstCount := rfl
@[simp] theorem sampleTime_wireCrc (s : State) : (sampleTime s).wireCrc = s.wireCrc := rfl
@[simp] theorem sampleTime_w (s : State) : (sampleTime s).w = s.w := rfl
@[simp] theorem sampleTime_r1 (s : State) : (sampleTime s).r1 = s.r1 := rfl
@[simp] theorem sampleTime_ctl (s : State) : (sampleTime s).ctl = s.ctl := rfl
@[simp] theorem sampleTime_cmd (s : State) : (sampleTime s).cmd = s.cmd := rfl
@[simp] theorem sampleTime_rep (s : State) : (sampleTime s).rep = s.rep := rfl
@[simp] theorem sampleTime_csd (s : State) : (sampleTime s).csd = s.csd := rfl
@[simp] theorem sampleTime_rdata (s : State) : (sampleTime s).rdata = s.rdata := rfl
@[simp] theorem sampleTime_inputs (s : State) : (sampleTime s).inputs = s.inputs := rfl
@[simp] theorem sampleTime_rxQueue (s : State) : (sampleTime s).rxQueue = s.rxQueue := rfl
@[simp] theorem sampleTime_timeQueue (s : State) : (sampleTime s).timeQueue = s.timeQueue.tail := rfl
@[simp] theorem sampleTime_burstQueue (s : State) : (sampleTime s).burstQueue = s.burstQueue := rfl
@[simp] theorem sampleTime_draws (s : State) : (sampleTime s).draws = s.draws + 1 := rfl
@[simp] theorem sampleTime_stalled (s : State) : (sampleTime s).stalled = s.stalled := rfl
@[simp] theorem sampleTime_resets (s : State) : (sampleTime s).resets = s.resets := rfl
@[simp] theorem sampleTime_trace (s : State) : (sampleTime s).trace = .now (timeNext s) :: s.trace := rfl

/-! ## `csAssert` -/

@[simp] theorem csAssert_blkaddr (s : State) : (csAssert s).blkaddr = s.blkaddr := rfl
@[simp] theorem csAssert_rcrc (s : State) : (csAssert s).rcrc = s.rcrc := rfl
@[simp] theorem csAssert_baudHz (s : State) : (csAssert s).baudHz = s.baudHz := rfl
@[simp] theorem csAssert_tReadyMs (s : State) : (csAssert s).tReadyMs = s.tReadyMs := rfl
@[simp] theorem csAssert_nR1 (s : State) : (csAssert s).nR1 = s.nR1 := rfl
@[simp] theorem csAssert_nToken (s : State) : (csAssert s).nToken = s.nToken := rfl
@[simp] theorem csAssert_nProg (s : State) : (csAssert s).nProg = s.nProg := rfl
@[simp] theorem csAssert_tInitMs (s : State) : (csAssert s).tInitMs = s.tInitMs := rfl
@[simp] theorem csAssert_nSync (s : State) : (csAssert s).nSync = s.nSync := rfl
@[simp] theorem csAssert_datainPin (s : State) : (csAssert s).datainPin = s.datainPin := rfl
@[simp] theorem csAssert_busy (s : State) : (csAssert s).busy = s.busy := rfl
@[simp] theorem csAssert_done (s : State) : (csAssert s).done = s.done := rfl
@[simp] theorem csAssert_err (s : State) : (csAssert s).err = s.err := rfl
@[simp] theorem csAssert_inited (s : State) : (csAssert s).inited = s.inited := rfl
@[simp] theorem csAssert_errcode (s : State) : (csAssert s).errcode = s.errcode := rfl
@[simp] theorem csAssert_phase (s : State) : (csAssert s).phase = s.phase := rfl
@[simp] theorem csAssert_cd (s : State) : (csAssert s).cd = s.cd := rfl
@[simp] theorem csAssert_cs (s : State) : (csAssert s).cs = true := rfl
@[simp] theorem csAssert_curBaud (s : State) : (csAssert s).curBaud = s.curBaud := rfl
@[simp] theorem csAssert_buf (s : State) : (csAssert s).buf = s.buf := rfl
@[simp] theorem csAssert_frame (s : State) : (csAssert s).frame = s.frame := rfl
@[simp] theorem csAssert_lastR1 (s : State) : (csAssert s).lastR1 = s.lastR1 := rfl
@[simp] theorem csAssert_lastRx (s : State) : (csAssert s).lastRx = s.lastRx := rfl
@[simp] theorem csAssert_failPhase (s : State) : (csAssert s).failPhase = s.failPhase := rfl
@[simp] theorem csAssert_diagIfcond (s : State) : (csAssert s).diagIfcond = s.diagIfcond := rfl
@[simp] theorem csAssert_diagOcr (s : State) : (csAssert s).diagOcr = s.diagOcr := rfl
@[simp] theorem csAssert_diagCsd (s : State) : (csAssert s).diagCsd = s.diagCsd := rfl
@[simp] theorem csAssert_curOp (s : State) : (csAssert s).curOp = s.curOp := rfl
@[simp] theorem csAssert_curBlk (s : State) : (csAssert s).curBlk = s.curBlk := rfl
@[simp] theorem csAssert_cnt (s : State) : (csAssert s).cnt = s.cnt := rfl
@[simp] theorem csAssert_t0 (s : State) : (csAssert s).t0 = s.t0 := rfl
@[simp] theorem csAssert_t0Init (s : State) : (csAssert s).t0Init = s.t0Init := rfl
@[simp] theorem csAssert_burstCount (s : State) : (csAssert s).burstCount = s.burstCount := rfl
@[simp] theorem csAssert_wireCrc (s : State) : (csAssert s).wireCrc = s.wireCrc := rfl
@[simp] theorem csAssert_w (s : State) : (csAssert s).w = s.w := rfl
@[simp] theorem csAssert_r1 (s : State) : (csAssert s).r1 = s.r1 := rfl
@[simp] theorem csAssert_ctl (s : State) : (csAssert s).ctl = s.ctl := rfl
@[simp] theorem csAssert_cmd (s : State) : (csAssert s).cmd = s.cmd := rfl
@[simp] theorem csAssert_rep (s : State) : (csAssert s).rep = s.rep := rfl
@[simp] theorem csAssert_csd (s : State) : (csAssert s).csd = s.csd := rfl
@[simp] theorem csAssert_rdata (s : State) : (csAssert s).rdata = s.rdata := rfl
@[simp] theorem csAssert_inputs (s : State) : (csAssert s).inputs = s.inputs := rfl
@[simp] theorem csAssert_rxQueue (s : State) : (csAssert s).rxQueue = s.rxQueue := rfl
@[simp] theorem csAssert_timeQueue (s : State) : (csAssert s).timeQueue = s.timeQueue := rfl
@[simp] theorem csAssert_burstQueue (s : State) : (csAssert s).burstQueue = s.burstQueue := rfl
@[simp] theorem csAssert_draws (s : State) : (csAssert s).draws = s.draws := rfl
@[simp] theorem csAssert_stalled (s : State) : (csAssert s).stalled = s.stalled := rfl
@[simp] theorem csAssert_resets (s : State) : (csAssert s).resets = s.resets := rfl
@[simp] theorem csAssert_trace (s : State) : (csAssert s).trace = .csAssert :: s.trace := rfl

/-! ## `csDeassert` -/

@[simp] theorem csDeassert_blkaddr (s : State) : (csDeassert s).blkaddr = s.blkaddr := rfl
@[simp] theorem csDeassert_rcrc (s : State) : (csDeassert s).rcrc = s.rcrc := rfl
@[simp] theorem csDeassert_baudHz (s : State) : (csDeassert s).baudHz = s.baudHz := rfl
@[simp] theorem csDeassert_tReadyMs (s : State) : (csDeassert s).tReadyMs = s.tReadyMs := rfl
@[simp] theorem csDeassert_nR1 (s : State) : (csDeassert s).nR1 = s.nR1 := rfl
@[simp] theorem csDeassert_nToken (s : State) : (csDeassert s).nToken = s.nToken := rfl
@[simp] theorem csDeassert_nProg (s : State) : (csDeassert s).nProg = s.nProg := rfl
@[simp] theorem csDeassert_tInitMs (s : State) : (csDeassert s).tInitMs = s.tInitMs := rfl
@[simp] theorem csDeassert_nSync (s : State) : (csDeassert s).nSync = s.nSync := rfl
@[simp] theorem csDeassert_datainPin (s : State) : (csDeassert s).datainPin = s.datainPin := rfl
@[simp] theorem csDeassert_busy (s : State) : (csDeassert s).busy = s.busy := rfl
@[simp] theorem csDeassert_done (s : State) : (csDeassert s).done = s.done := rfl
@[simp] theorem csDeassert_err (s : State) : (csDeassert s).err = s.err := rfl
@[simp] theorem csDeassert_inited (s : State) : (csDeassert s).inited = s.inited := rfl
@[simp] theorem csDeassert_errcode (s : State) : (csDeassert s).errcode = s.errcode := rfl
@[simp] theorem csDeassert_phase (s : State) : (csDeassert s).phase = s.phase := rfl
@[simp] theorem csDeassert_cd (s : State) : (csDeassert s).cd = s.cd := rfl
@[simp] theorem csDeassert_cs (s : State) : (csDeassert s).cs = false := rfl
@[simp] theorem csDeassert_curBaud (s : State) : (csDeassert s).curBaud = s.curBaud := rfl
@[simp] theorem csDeassert_buf (s : State) : (csDeassert s).buf = s.buf := rfl
@[simp] theorem csDeassert_frame (s : State) : (csDeassert s).frame = s.frame := rfl
@[simp] theorem csDeassert_lastR1 (s : State) : (csDeassert s).lastR1 = s.lastR1 := rfl
@[simp] theorem csDeassert_lastRx (s : State) : (csDeassert s).lastRx = s.lastRx := rfl
@[simp] theorem csDeassert_failPhase (s : State) : (csDeassert s).failPhase = s.failPhase := rfl
@[simp] theorem csDeassert_diagIfcond (s : State) : (csDeassert s).diagIfcond = s.diagIfcond := rfl
@[simp] theorem csDeassert_diagOcr (s : State) : (csDeassert s).diagOcr = s.diagOcr := rfl
@[simp] theorem csDeassert_diagCsd (s : State) : (csDeassert s).diagCsd = s.diagCsd := rfl
@[simp] theorem csDeassert_curOp (s : State) : (csDeassert s).curOp = s.curOp := rfl
@[simp] theorem csDeassert_curBlk (s : State) : (csDeassert s).curBlk = s.curBlk := rfl
@[simp] theorem csDeassert_cnt (s : State) : (csDeassert s).cnt = s.cnt := rfl
@[simp] theorem csDeassert_t0 (s : State) : (csDeassert s).t0 = s.t0 := rfl
@[simp] theorem csDeassert_t0Init (s : State) : (csDeassert s).t0Init = s.t0Init := rfl
@[simp] theorem csDeassert_burstCount (s : State) : (csDeassert s).burstCount = s.burstCount := rfl
@[simp] theorem csDeassert_wireCrc (s : State) : (csDeassert s).wireCrc = s.wireCrc := rfl
@[simp] theorem csDeassert_w (s : State) : (csDeassert s).w = s.w := rfl
@[simp] theorem csDeassert_r1 (s : State) : (csDeassert s).r1 = s.r1 := rfl
@[simp] theorem csDeassert_ctl (s : State) : (csDeassert s).ctl = s.ctl := rfl
@[simp] theorem csDeassert_cmd (s : State) : (csDeassert s).cmd = s.cmd := rfl
@[simp] theorem csDeassert_rep (s : State) : (csDeassert s).rep = s.rep := rfl
@[simp] theorem csDeassert_csd (s : State) : (csDeassert s).csd = s.csd := rfl
@[simp] theorem csDeassert_rdata (s : State) : (csDeassert s).rdata = s.rdata := rfl
@[simp] theorem csDeassert_inputs (s : State) : (csDeassert s).inputs = s.inputs := rfl
@[simp] theorem csDeassert_rxQueue (s : State) : (csDeassert s).rxQueue = s.rxQueue := rfl
@[simp] theorem csDeassert_timeQueue (s : State) : (csDeassert s).timeQueue = s.timeQueue := rfl
@[simp] theorem csDeassert_burstQueue (s : State) : (csDeassert s).burstQueue = s.burstQueue := rfl
@[simp] theorem csDeassert_draws (s : State) : (csDeassert s).draws = s.draws := rfl
@[simp] theorem csDeassert_stalled (s : State) : (csDeassert s).stalled = s.stalled := rfl
@[simp] theorem csDeassert_resets (s : State) : (csDeassert s).resets = s.resets := rfl
@[simp] theorem csDeassert_trace (s : State) : (csDeassert s).trace = .csDeassert :: s.trace := rfl

/-! ## `setBaud` -/

@[simp] theorem setBaud_blkaddr (hz : U32) (s : State) : (setBaud hz s).blkaddr = s.blkaddr := rfl
@[simp] theorem setBaud_rcrc (hz : U32) (s : State) : (setBaud hz s).rcrc = s.rcrc := rfl
@[simp] theorem setBaud_baudHz (hz : U32) (s : State) : (setBaud hz s).baudHz = s.baudHz := rfl
@[simp] theorem setBaud_tReadyMs (hz : U32) (s : State) : (setBaud hz s).tReadyMs = s.tReadyMs := rfl
@[simp] theorem setBaud_nR1 (hz : U32) (s : State) : (setBaud hz s).nR1 = s.nR1 := rfl
@[simp] theorem setBaud_nToken (hz : U32) (s : State) : (setBaud hz s).nToken = s.nToken := rfl
@[simp] theorem setBaud_nProg (hz : U32) (s : State) : (setBaud hz s).nProg = s.nProg := rfl
@[simp] theorem setBaud_tInitMs (hz : U32) (s : State) : (setBaud hz s).tInitMs = s.tInitMs := rfl
@[simp] theorem setBaud_nSync (hz : U32) (s : State) : (setBaud hz s).nSync = s.nSync := rfl
@[simp] theorem setBaud_datainPin (hz : U32) (s : State) : (setBaud hz s).datainPin = s.datainPin := rfl
@[simp] theorem setBaud_busy (hz : U32) (s : State) : (setBaud hz s).busy = s.busy := rfl
@[simp] theorem setBaud_done (hz : U32) (s : State) : (setBaud hz s).done = s.done := rfl
@[simp] theorem setBaud_err (hz : U32) (s : State) : (setBaud hz s).err = s.err := rfl
@[simp] theorem setBaud_inited (hz : U32) (s : State) : (setBaud hz s).inited = s.inited := rfl
@[simp] theorem setBaud_errcode (hz : U32) (s : State) : (setBaud hz s).errcode = s.errcode := rfl
@[simp] theorem setBaud_phase (hz : U32) (s : State) : (setBaud hz s).phase = s.phase := rfl
@[simp] theorem setBaud_cd (hz : U32) (s : State) : (setBaud hz s).cd = s.cd := rfl
@[simp] theorem setBaud_cs (hz : U32) (s : State) : (setBaud hz s).cs = s.cs := rfl
@[simp] theorem setBaud_curBaud (hz : U32) (s : State) : (setBaud hz s).curBaud = hz := rfl
@[simp] theorem setBaud_buf (hz : U32) (s : State) : (setBaud hz s).buf = s.buf := rfl
@[simp] theorem setBaud_frame (hz : U32) (s : State) : (setBaud hz s).frame = s.frame := rfl
@[simp] theorem setBaud_lastR1 (hz : U32) (s : State) : (setBaud hz s).lastR1 = s.lastR1 := rfl
@[simp] theorem setBaud_lastRx (hz : U32) (s : State) : (setBaud hz s).lastRx = s.lastRx := rfl
@[simp] theorem setBaud_failPhase (hz : U32) (s : State) : (setBaud hz s).failPhase = s.failPhase := rfl
@[simp] theorem setBaud_diagIfcond (hz : U32) (s : State) : (setBaud hz s).diagIfcond = s.diagIfcond := rfl
@[simp] theorem setBaud_diagOcr (hz : U32) (s : State) : (setBaud hz s).diagOcr = s.diagOcr := rfl
@[simp] theorem setBaud_diagCsd (hz : U32) (s : State) : (setBaud hz s).diagCsd = s.diagCsd := rfl
@[simp] theorem setBaud_curOp (hz : U32) (s : State) : (setBaud hz s).curOp = s.curOp := rfl
@[simp] theorem setBaud_curBlk (hz : U32) (s : State) : (setBaud hz s).curBlk = s.curBlk := rfl
@[simp] theorem setBaud_cnt (hz : U32) (s : State) : (setBaud hz s).cnt = s.cnt := rfl
@[simp] theorem setBaud_t0 (hz : U32) (s : State) : (setBaud hz s).t0 = s.t0 := rfl
@[simp] theorem setBaud_t0Init (hz : U32) (s : State) : (setBaud hz s).t0Init = s.t0Init := rfl
@[simp] theorem setBaud_burstCount (hz : U32) (s : State) : (setBaud hz s).burstCount = s.burstCount := rfl
@[simp] theorem setBaud_wireCrc (hz : U32) (s : State) : (setBaud hz s).wireCrc = s.wireCrc := rfl
@[simp] theorem setBaud_w (hz : U32) (s : State) : (setBaud hz s).w = s.w := rfl
@[simp] theorem setBaud_r1 (hz : U32) (s : State) : (setBaud hz s).r1 = s.r1 := rfl
@[simp] theorem setBaud_ctl (hz : U32) (s : State) : (setBaud hz s).ctl = s.ctl := rfl
@[simp] theorem setBaud_cmd (hz : U32) (s : State) : (setBaud hz s).cmd = s.cmd := rfl
@[simp] theorem setBaud_rep (hz : U32) (s : State) : (setBaud hz s).rep = s.rep := rfl
@[simp] theorem setBaud_csd (hz : U32) (s : State) : (setBaud hz s).csd = s.csd := rfl
@[simp] theorem setBaud_rdata (hz : U32) (s : State) : (setBaud hz s).rdata = s.rdata := rfl
@[simp] theorem setBaud_inputs (hz : U32) (s : State) : (setBaud hz s).inputs = s.inputs := rfl
@[simp] theorem setBaud_rxQueue (hz : U32) (s : State) : (setBaud hz s).rxQueue = s.rxQueue := rfl
@[simp] theorem setBaud_timeQueue (hz : U32) (s : State) : (setBaud hz s).timeQueue = s.timeQueue := rfl
@[simp] theorem setBaud_burstQueue (hz : U32) (s : State) : (setBaud hz s).burstQueue = s.burstQueue := rfl
@[simp] theorem setBaud_draws (hz : U32) (s : State) : (setBaud hz s).draws = s.draws := rfl
@[simp] theorem setBaud_stalled (hz : U32) (s : State) : (setBaud hz s).stalled = s.stalled := rfl
@[simp] theorem setBaud_resets (hz : U32) (s : State) : (setBaud hz s).resets = s.resets := rfl
@[simp] theorem setBaud_trace (hz : U32) (s : State) : (setBaud hz s).trace = .setBaud hz :: s.trace := rfl

/-! ## `callCommand` -/

@[simp] theorem callCommand_blkaddr (c : Command) (o : BitVec 6) (a : U32) (s : State) : (callCommand c o a s).blkaddr = s.blkaddr := rfl
@[simp] theorem callCommand_rcrc (c : Command) (o : BitVec 6) (a : U32) (s : State) : (callCommand c o a s).rcrc = s.rcrc := rfl
@[simp] theorem callCommand_baudHz (c : Command) (o : BitVec 6) (a : U32) (s : State) : (callCommand c o a s).baudHz = s.baudHz := rfl
@[simp] theorem callCommand_tReadyMs (c : Command) (o : BitVec 6) (a : U32) (s : State) : (callCommand c o a s).tReadyMs = s.tReadyMs := rfl
@[simp] theorem callCommand_nR1 (c : Command) (o : BitVec 6) (a : U32) (s : State) : (callCommand c o a s).nR1 = s.nR1 := rfl
@[simp] theorem callCommand_nToken (c : Command) (o : BitVec 6) (a : U32) (s : State) : (callCommand c o a s).nToken = s.nToken := rfl
@[simp] theorem callCommand_nProg (c : Command) (o : BitVec 6) (a : U32) (s : State) : (callCommand c o a s).nProg = s.nProg := rfl
@[simp] theorem callCommand_tInitMs (c : Command) (o : BitVec 6) (a : U32) (s : State) : (callCommand c o a s).tInitMs = s.tInitMs := rfl
@[simp] theorem callCommand_nSync (c : Command) (o : BitVec 6) (a : U32) (s : State) : (callCommand c o a s).nSync = s.nSync := rfl
@[simp] theorem callCommand_datainPin (c : Command) (o : BitVec 6) (a : U32) (s : State) : (callCommand c o a s).datainPin = s.datainPin := rfl
@[simp] theorem callCommand_busy (c : Command) (o : BitVec 6) (a : U32) (s : State) : (callCommand c o a s).busy = s.busy := rfl
@[simp] theorem callCommand_done (c : Command) (o : BitVec 6) (a : U32) (s : State) : (callCommand c o a s).done = s.done := rfl
@[simp] theorem callCommand_err (c : Command) (o : BitVec 6) (a : U32) (s : State) : (callCommand c o a s).err = s.err := rfl
@[simp] theorem callCommand_inited (c : Command) (o : BitVec 6) (a : U32) (s : State) : (callCommand c o a s).inited = s.inited := rfl
@[simp] theorem callCommand_errcode (c : Command) (o : BitVec 6) (a : U32) (s : State) : (callCommand c o a s).errcode = s.errcode := rfl
@[simp] theorem callCommand_phase (c : Command) (o : BitVec 6) (a : U32) (s : State) : (callCommand c o a s).phase = s.phase := rfl
@[simp] theorem callCommand_cd (c : Command) (o : BitVec 6) (a : U32) (s : State) : (callCommand c o a s).cd = s.cd := rfl
@[simp] theorem callCommand_cs (c : Command) (o : BitVec 6) (a : U32) (s : State) : (callCommand c o a s).cs = s.cs := rfl
@[simp] theorem callCommand_curBaud (c : Command) (o : BitVec 6) (a : U32) (s : State) : (callCommand c o a s).curBaud = s.curBaud := rfl
@[simp] theorem callCommand_buf (c : Command) (o : BitVec 6) (a : U32) (s : State) : (callCommand c o a s).buf = s.buf := rfl
@[simp] theorem callCommand_frame (c : Command) (o : BitVec 6) (a : U32) (s : State) : (callCommand c o a s).frame = s.frame := rfl
@[simp] theorem callCommand_lastR1 (c : Command) (o : BitVec 6) (a : U32) (s : State) : (callCommand c o a s).lastR1 = s.lastR1 := rfl
@[simp] theorem callCommand_lastRx (c : Command) (o : BitVec 6) (a : U32) (s : State) : (callCommand c o a s).lastRx = s.lastRx := rfl
@[simp] theorem callCommand_failPhase (c : Command) (o : BitVec 6) (a : U32) (s : State) : (callCommand c o a s).failPhase = s.failPhase := rfl
@[simp] theorem callCommand_diagIfcond (c : Command) (o : BitVec 6) (a : U32) (s : State) : (callCommand c o a s).diagIfcond = s.diagIfcond := rfl
@[simp] theorem callCommand_diagOcr (c : Command) (o : BitVec 6) (a : U32) (s : State) : (callCommand c o a s).diagOcr = s.diagOcr := rfl
@[simp] theorem callCommand_diagCsd (c : Command) (o : BitVec 6) (a : U32) (s : State) : (callCommand c o a s).diagCsd = s.diagCsd := rfl
@[simp] theorem callCommand_curOp (c : Command) (o : BitVec 6) (a : U32) (s : State) : (callCommand c o a s).curOp = s.curOp := rfl
@[simp] theorem callCommand_curBlk (c : Command) (o : BitVec 6) (a : U32) (s : State) : (callCommand c o a s).curBlk = s.curBlk := rfl
@[simp] theorem callCommand_cnt (c : Command) (o : BitVec 6) (a : U32) (s : State) : (callCommand c o a s).cnt = s.cnt := rfl
@[simp] theorem callCommand_t0 (c : Command) (o : BitVec 6) (a : U32) (s : State) : (callCommand c o a s).t0 = s.t0 := rfl
@[simp] theorem callCommand_t0Init (c : Command) (o : BitVec 6) (a : U32) (s : State) : (callCommand c o a s).t0Init = s.t0Init := rfl
@[simp] theorem callCommand_burstCount (c : Command) (o : BitVec 6) (a : U32) (s : State) : (callCommand c o a s).burstCount = s.burstCount := rfl
@[simp] theorem callCommand_wireCrc (c : Command) (o : BitVec 6) (a : U32) (s : State) : (callCommand c o a s).wireCrc = s.wireCrc := rfl
@[simp] theorem callCommand_w (c : Command) (o : BitVec 6) (a : U32) (s : State) : (callCommand c o a s).w = s.w := rfl
@[simp] theorem callCommand_r1 (c : Command) (o : BitVec 6) (a : U32) (s : State) : (callCommand c o a s).r1 = s.r1 := rfl
@[simp] theorem callCommand_ctl (c : Command) (o : BitVec 6) (a : U32) (s : State) : (callCommand c o a s).ctl = .encode o a := rfl
@[simp] theorem callCommand_cmd (c : Command) (o : BitVec 6) (a : U32) (s : State) : (callCommand c o a s).cmd = c := rfl
@[simp] theorem callCommand_rep (c : Command) (o : BitVec 6) (a : U32) (s : State) : (callCommand c o a s).rep = s.rep := rfl
@[simp] theorem callCommand_csd (c : Command) (o : BitVec 6) (a : U32) (s : State) : (callCommand c o a s).csd = s.csd := rfl
@[simp] theorem callCommand_rdata (c : Command) (o : BitVec 6) (a : U32) (s : State) : (callCommand c o a s).rdata = s.rdata := rfl
@[simp] theorem callCommand_inputs (c : Command) (o : BitVec 6) (a : U32) (s : State) : (callCommand c o a s).inputs = s.inputs := rfl
@[simp] theorem callCommand_rxQueue (c : Command) (o : BitVec 6) (a : U32) (s : State) : (callCommand c o a s).rxQueue = s.rxQueue := rfl
@[simp] theorem callCommand_timeQueue (c : Command) (o : BitVec 6) (a : U32) (s : State) : (callCommand c o a s).timeQueue = s.timeQueue := rfl
@[simp] theorem callCommand_burstQueue (c : Command) (o : BitVec 6) (a : U32) (s : State) : (callCommand c o a s).burstQueue = s.burstQueue := rfl
@[simp] theorem callCommand_draws (c : Command) (o : BitVec 6) (a : U32) (s : State) : (callCommand c o a s).draws = s.draws := rfl
@[simp] theorem callCommand_stalled (c : Command) (o : BitVec 6) (a : U32) (s : State) : (callCommand c o a s).stalled = s.stalled := rfl
@[simp] theorem callCommand_resets (c : Command) (o : BitVec 6) (a : U32) (s : State) : (callCommand c o a s).resets = s.resets := rfl
@[simp] theorem callCommand_trace (c : Command) (o : BitVec 6) (a : U32) (s : State) : (callCommand c o a s).trace = s.trace := rfl

/-! ## `complete` -/

@[simp] theorem complete_blkaddr (e : Option ErrorKind) (s : State) : (complete e s).blkaddr = s.blkaddr := rfl
@[simp] theorem complete_rcrc (e : Option ErrorKind) (s : State) : (complete e s).rcrc = s.rcrc := rfl
@[simp] theorem complete_baudHz (e : Option ErrorKind) (s : State) : (complete e s).baudHz = s.baudHz := rfl
@[simp] theorem complete_tReadyMs (e : Option ErrorKind) (s : State) : (complete e s).tReadyMs = s.tReadyMs := rfl
@[simp] theorem complete_nR1 (e : Option ErrorKind) (s : State) : (complete e s).nR1 = s.nR1 := rfl
@[simp] theorem complete_nToken (e : Option ErrorKind) (s : State) : (complete e s).nToken = s.nToken := rfl
@[simp] theorem complete_nProg (e : Option ErrorKind) (s : State) : (complete e s).nProg = s.nProg := rfl
@[simp] theorem complete_tInitMs (e : Option ErrorKind) (s : State) : (complete e s).tInitMs = s.tInitMs := rfl
@[simp] theorem complete_nSync (e : Option ErrorKind) (s : State) : (complete e s).nSync = s.nSync := rfl
@[simp] theorem complete_datainPin (e : Option ErrorKind) (s : State) : (complete e s).datainPin = s.datainPin := rfl
@[simp] theorem complete_busy (e : Option ErrorKind) (s : State) : (complete e s).busy = false := rfl
@[simp] theorem complete_done (e : Option ErrorKind) (s : State) : (complete e s).done = true := rfl
@[simp] theorem complete_err (e : Option ErrorKind) (s : State) : (complete e s).err = e.isSome := rfl
@[simp] theorem complete_inited (e : Option ErrorKind) (s : State) : (complete e s).inited = s.inited := rfl
@[simp] theorem complete_errcode (e : Option ErrorKind) (s : State) : (complete e s).errcode = e := rfl
@[simp] theorem complete_phase (e : Option ErrorKind) (s : State) : (complete e s).phase = if e.isSome then .failed else .done := rfl
@[simp] theorem complete_cd (e : Option ErrorKind) (s : State) : (complete e s).cd = s.cd := rfl
@[simp] theorem complete_cs (e : Option ErrorKind) (s : State) : (complete e s).cs = s.cs := rfl
@[simp] theorem complete_curBaud (e : Option ErrorKind) (s : State) : (complete e s).curBaud = s.curBaud := rfl
@[simp] theorem complete_buf (e : Option ErrorKind) (s : State) : (complete e s).buf = s.buf := rfl
@[simp] theorem complete_frame (e : Option ErrorKind) (s : State) : (complete e s).frame = s.frame := rfl
@[simp] theorem complete_lastR1 (e : Option ErrorKind) (s : State) : (complete e s).lastR1 = s.lastR1 := rfl
@[simp] theorem complete_lastRx (e : Option ErrorKind) (s : State) : (complete e s).lastRx = s.lastRx := rfl
@[simp] theorem complete_failPhase (e : Option ErrorKind) (s : State) : (complete e s).failPhase = if e.isSome then s.phase else s.failPhase := rfl
@[simp] theorem complete_diagIfcond (e : Option ErrorKind) (s : State) : (complete e s).diagIfcond = s.diagIfcond := rfl
@[simp] theorem complete_diagOcr (e : Option ErrorKind) (s : State) : (complete e s).diagOcr = s.diagOcr := rfl
@[simp] theorem complete_diagCsd (e : Option ErrorKind) (s : State) : (complete e s).diagCsd = s.diagCsd := rfl
@[simp] theorem complete_curOp (e : Option ErrorKind) (s : State) : (complete e s).curOp = s.curOp := rfl
@[simp] theorem complete_curBlk (e : Option ErrorKind) (s : State) : (complete e s).curBlk = s.curBlk := rfl
@[simp] theorem complete_cnt (e : Option ErrorKind) (s : State) : (complete e s).cnt = s.cnt := rfl
@[simp] theorem complete_t0 (e : Option ErrorKind) (s : State) : (complete e s).t0 = s.t0 := rfl
@[simp] theorem complete_t0Init (e : Option ErrorKind) (s : State) : (complete e s).t0Init = s.t0Init := rfl
@[simp] theorem complete_burstCount (e : Option ErrorKind) (s : State) : (complete e s).burstCount = s.burstCount := rfl
@[simp] theorem complete_wireCrc (e : Option ErrorKind) (s : State) : (complete e s).wireCrc = s.wireCrc := rfl
@[simp] theorem complete_w (e : Option ErrorKind) (s : State) : (complete e s).w = s.w := rfl
@[simp] theorem complete_r1 (e : Option ErrorKind) (s : State) : (complete e s).r1 = s.r1 := rfl
@[simp] theorem complete_ctl (e : Option ErrorKind) (s : State) : (complete e s).ctl = .idle := rfl
@[simp] theorem complete_cmd (e : Option ErrorKind) (s : State) : (complete e s).cmd = s.cmd := rfl
@[simp] theorem complete_rep (e : Option ErrorKind) (s : State) : (complete e s).rep = s.rep := rfl
@[simp] theorem complete_csd (e : Option ErrorKind) (s : State) : (complete e s).csd = s.csd := rfl
@[simp] theorem complete_rdata (e : Option ErrorKind) (s : State) : (complete e s).rdata = s.rdata := rfl
@[simp] theorem complete_inputs (e : Option ErrorKind) (s : State) : (complete e s).inputs = s.inputs := rfl
@[simp] theorem complete_rxQueue (e : Option ErrorKind) (s : State) : (complete e s).rxQueue = s.rxQueue := rfl
@[simp] theorem complete_timeQueue (e : Option ErrorKind) (s : State) : (complete e s).timeQueue = s.timeQueue := rfl
@[simp] theorem complete_burstQueue (e : Option ErrorKind) (s : State) : (complete e s).burstQueue = s.burstQueue := rfl
@[simp] theorem complete_draws (e : Option ErrorKind) (s : State) : (complete e s).draws = s.draws := rfl
@[simp] theorem complete_stalled (e : Option ErrorKind) (s : State) : (complete e s).stalled = s.stalled := rfl
@[simp] theorem complete_resets (e : Option ErrorKind) (s : State) : (complete e s).resets = s.resets := rfl
@[simp] theorem complete_trace (e : Option ErrorKind) (s : State) : (complete e s).trace = s.trace := rfl

/-! ## `latchStart` -/

@[simp] theorem latchStart_blkaddr (op : HostOp) (s : State) : (latchStart op s).blkaddr = s.blkaddr := rfl
@[simp] theorem latchStart_rcrc (op : HostOp) (s : State) : (latchStart op s).rcrc = s.rcrc := rfl
@[simp] theorem latchStart_baudHz (op : HostOp) (s : State) : (latchStart op s).baudHz = s.baudHz := rfl
@[simp] theorem latchStart_tReadyMs (op : HostOp) (s : State) : (latchStart op s).tReadyMs = s.tReadyMs := rfl
@[simp] theorem latchStart_nR1 (op : HostOp) (s : State) : (latchStart op s).nR1 = s.nR1 := rfl
@[simp] theorem latchStart_nToken (op : HostOp) (s : State) : (latchStart op s).nToken = s.nToken := rfl
@[simp] theorem latchStart_nProg (op : HostOp) (s : State) : (latchStart op s).nProg = s.nProg := rfl
@[simp] theorem latchStart_tInitMs (op : HostOp) (s : State) : (latchStart op s).tInitMs = s.tInitMs := rfl
@[simp] theorem latchStart_nSync (op : HostOp) (s : State) : (latchStart op s).nSync = s.nSync := rfl
@[simp] theorem latchStart_datainPin (op : HostOp) (s : State) : (latchStart op s).datainPin = s.datainPin := rfl
@[simp] theorem latchStart_busy (op : HostOp) (s : State) : (latchStart op s).busy = true := rfl
@[simp] theorem latchStart_done (op : HostOp) (s : State) : (latchStart op s).done = false := rfl
@[simp] theorem latchStart_err (op : HostOp) (s : State) : (latchStart op s).err = false := rfl
@[simp] theorem latchStart_inited (op : HostOp) (s : State) : (latchStart op s).inited = s.inited := rfl
@[simp] theorem latchStart_errcode (op : HostOp) (s : State) : (latchStart op s).errcode = none := rfl
@[simp] theorem latchStart_phase (op : HostOp) (s : State) : (latchStart op s).phase = s.phase := rfl
@[simp] theorem latchStart_cd (op : HostOp) (s : State) : (latchStart op s).cd = s.cd := rfl
@[simp] theorem latchStart_cs (op : HostOp) (s : State) : (latchStart op s).cs = s.cs := rfl
@[simp] theorem latchStart_curBaud (op : HostOp) (s : State) : (latchStart op s).curBaud = s.curBaud := rfl
@[simp] theorem latchStart_buf (op : HostOp) (s : State) : (latchStart op s).buf = s.buf := rfl
@[simp] theorem latchStart_frame (op : HostOp) (s : State) : (latchStart op s).frame = s.frame := rfl
@[simp] theorem latchStart_lastR1 (op : HostOp) (s : State) : (latchStart op s).lastR1 = s.lastR1 := rfl
@[simp] theorem latchStart_lastRx (op : HostOp) (s : State) : (latchStart op s).lastRx = s.lastRx := rfl
@[simp] theorem latchStart_failPhase (op : HostOp) (s : State) : (latchStart op s).failPhase = s.failPhase := rfl
@[simp] theorem latchStart_diagIfcond (op : HostOp) (s : State) : (latchStart op s).diagIfcond = s.diagIfcond := rfl
@[simp] theorem latchStart_diagOcr (op : HostOp) (s : State) : (latchStart op s).diagOcr = s.diagOcr := rfl
@[simp] theorem latchStart_diagCsd (op : HostOp) (s : State) : (latchStart op s).diagCsd = s.diagCsd := rfl
@[simp] theorem latchStart_curOp (op : HostOp) (s : State) : (latchStart op s).curOp = op := rfl
@[simp] theorem latchStart_curBlk (op : HostOp) (s : State) : (latchStart op s).curBlk = s.curBlk := rfl
@[simp] theorem latchStart_cnt (op : HostOp) (s : State) : (latchStart op s).cnt = s.cnt := rfl
@[simp] theorem latchStart_t0 (op : HostOp) (s : State) : (latchStart op s).t0 = s.t0 := rfl
@[simp] theorem latchStart_t0Init (op : HostOp) (s : State) : (latchStart op s).t0Init = s.t0Init := rfl
@[simp] theorem latchStart_burstCount (op : HostOp) (s : State) : (latchStart op s).burstCount = s.burstCount := rfl
@[simp] theorem latchStart_wireCrc (op : HostOp) (s : State) : (latchStart op s).wireCrc = s.wireCrc := rfl
@[simp] theorem latchStart_w (op : HostOp) (s : State) : (latchStart op s).w = s.w := rfl
@[simp] theorem latchStart_r1 (op : HostOp) (s : State) : (latchStart op s).r1 = s.r1 := rfl
@[simp] theorem latchStart_ctl (op : HostOp) (s : State) : (latchStart op s).ctl = s.ctl := rfl
@[simp] theorem latchStart_cmd (op : HostOp) (s : State) : (latchStart op s).cmd = s.cmd := rfl
@[simp] theorem latchStart_rep (op : HostOp) (s : State) : (latchStart op s).rep = s.rep := rfl
@[simp] theorem latchStart_csd (op : HostOp) (s : State) : (latchStart op s).csd = s.csd := rfl
@[simp] theorem latchStart_rdata (op : HostOp) (s : State) : (latchStart op s).rdata = s.rdata := rfl
@[simp] theorem latchStart_inputs (op : HostOp) (s : State) : (latchStart op s).inputs = s.inputs := rfl
@[simp] theorem latchStart_rxQueue (op : HostOp) (s : State) : (latchStart op s).rxQueue = s.rxQueue := rfl
@[simp] theorem latchStart_timeQueue (op : HostOp) (s : State) : (latchStart op s).timeQueue = s.timeQueue := rfl
@[simp] theorem latchStart_burstQueue (op : HostOp) (s : State) : (latchStart op s).burstQueue = s.burstQueue := rfl
@[simp] theorem latchStart_draws (op : HostOp) (s : State) : (latchStart op s).draws = s.draws := rfl
@[simp] theorem latchStart_stalled (op : HostOp) (s : State) : (latchStart op s).stalled = s.stalled := rfl
@[simp] theorem latchStart_resets (op : HostOp) (s : State) : (latchStart op s).resets = s.resets := rfl
@[simp] theorem latchStart_trace (op : HostOp) (s : State) : (latchStart op s).trace = s.trace := rfl

/-! ## `setBufByte` -/

@[simp] theorem setBufByte_blkaddr (s : State) (k : BitVec 9) (v : Byte) : (setBufByte s k v).blkaddr = s.blkaddr := rfl
@[simp] theorem setBufByte_rcrc (s : State) (k : BitVec 9) (v : Byte) : (setBufByte s k v).rcrc = s.rcrc := rfl
@[simp] theorem setBufByte_baudHz (s : State) (k : BitVec 9) (v : Byte) : (setBufByte s k v).baudHz = s.baudHz := rfl
@[simp] theorem setBufByte_tReadyMs (s : State) (k : BitVec 9) (v : Byte) : (setBufByte s k v).tReadyMs = s.tReadyMs := rfl
@[simp] theorem setBufByte_nR1 (s : State) (k : BitVec 9) (v : Byte) : (setBufByte s k v).nR1 = s.nR1 := rfl
@[simp] theorem setBufByte_nToken (s : State) (k : BitVec 9) (v : Byte) : (setBufByte s k v).nToken = s.nToken := rfl
@[simp] theorem setBufByte_nProg (s : State) (k : BitVec 9) (v : Byte) : (setBufByte s k v).nProg = s.nProg := rfl
@[simp] theorem setBufByte_tInitMs (s : State) (k : BitVec 9) (v : Byte) : (setBufByte s k v).tInitMs = s.tInitMs := rfl
@[simp] theorem setBufByte_nSync (s : State) (k : BitVec 9) (v : Byte) : (setBufByte s k v).nSync = s.nSync := rfl
@[simp] theorem setBufByte_datainPin (s : State) (k : BitVec 9) (v : Byte) : (setBufByte s k v).datainPin = s.datainPin := rfl
@[simp] theorem setBufByte_busy (s : State) (k : BitVec 9) (v : Byte) : (setBufByte s k v).busy = s.busy := rfl
@[simp] theorem setBufByte_done (s : State) (k : BitVec 9) (v : Byte) : (setBufByte s k v).done = s.done := rfl
@[simp] theorem setBufByte_err (s : State) (k : BitVec 9) (v : Byte) : (setBufByte s k v).err = s.err := rfl
@[simp] theorem setBufByte_inited (s : State) (k : BitVec 9) (v : Byte) : (setBufByte s k v).inited = s.inited := rfl
@[simp] theorem setBufByte_errcode (s : State) (k : BitVec 9) (v : Byte) : (setBufByte s k v).errcode = s.errcode := rfl
@[simp] theorem setBufByte_phase (s : State) (k : BitVec 9) (v : Byte) : (setBufByte s k v).phase = s.phase := rfl
@[simp] theorem setBufByte_cd (s : State) (k : BitVec 9) (v : Byte) : (setBufByte s k v).cd = s.cd := rfl
@[simp] theorem setBufByte_cs (s : State) (k : BitVec 9) (v : Byte) : (setBufByte s k v).cs = s.cs := rfl
@[simp] theorem setBufByte_curBaud (s : State) (k : BitVec 9) (v : Byte) : (setBufByte s k v).curBaud = s.curBaud := rfl
@[simp] theorem setBufByte_buf (s : State) (k : BitVec 9) (v : Byte) : (setBufByte s k v).buf = Memory.set s.buf k.toNat v := rfl
@[simp] theorem setBufByte_frame (s : State) (k : BitVec 9) (v : Byte) : (setBufByte s k v).frame = s.frame := rfl
@[simp] theorem setBufByte_lastR1 (s : State) (k : BitVec 9) (v : Byte) : (setBufByte s k v).lastR1 = s.lastR1 := rfl
@[simp] theorem setBufByte_lastRx (s : State) (k : BitVec 9) (v : Byte) : (setBufByte s k v).lastRx = s.lastRx := rfl
@[simp] theorem setBufByte_failPhase (s : State) (k : BitVec 9) (v : Byte) : (setBufByte s k v).failPhase = s.failPhase := rfl
@[simp] theorem setBufByte_diagIfcond (s : State) (k : BitVec 9) (v : Byte) : (setBufByte s k v).diagIfcond = s.diagIfcond := rfl
@[simp] theorem setBufByte_diagOcr (s : State) (k : BitVec 9) (v : Byte) : (setBufByte s k v).diagOcr = s.diagOcr := rfl
@[simp] theorem setBufByte_diagCsd (s : State) (k : BitVec 9) (v : Byte) : (setBufByte s k v).diagCsd = s.diagCsd := rfl
@[simp] theorem setBufByte_curOp (s : State) (k : BitVec 9) (v : Byte) : (setBufByte s k v).curOp = s.curOp := rfl
@[simp] theorem setBufByte_curBlk (s : State) (k : BitVec 9) (v : Byte) : (setBufByte s k v).curBlk = s.curBlk := rfl
@[simp] theorem setBufByte_cnt (s : State) (k : BitVec 9) (v : Byte) : (setBufByte s k v).cnt = s.cnt := rfl
@[simp] theorem setBufByte_t0 (s : State) (k : BitVec 9) (v : Byte) : (setBufByte s k v).t0 = s.t0 := rfl
@[simp] theorem setBufByte_t0Init (s : State) (k : BitVec 9) (v : Byte) : (setBufByte s k v).t0Init = s.t0Init := rfl
@[simp] theorem setBufByte_burstCount (s : State) (k : BitVec 9) (v : Byte) : (setBufByte s k v).burstCount = s.burstCount := rfl
@[simp] theorem setBufByte_wireCrc (s : State) (k : BitVec 9) (v : Byte) : (setBufByte s k v).wireCrc = s.wireCrc := rfl
@[simp] theorem setBufByte_w (s : State) (k : BitVec 9) (v : Byte) : (setBufByte s k v).w = s.w := rfl
@[simp] theorem setBufByte_r1 (s : State) (k : BitVec 9) (v : Byte) : (setBufByte s k v).r1 = s.r1 := rfl
@[simp] theorem setBufByte_ctl (s : State) (k : BitVec 9) (v : Byte) : (setBufByte s k v).ctl = s.ctl := rfl
@[simp] theorem setBufByte_cmd (s : State) (k : BitVec 9) (v : Byte) : (setBufByte s k v).cmd = s.cmd := rfl
@[simp] theorem setBufByte_rep (s : State) (k : BitVec 9) (v : Byte) : (setBufByte s k v).rep = s.rep := rfl
@[simp] theorem setBufByte_csd (s : State) (k : BitVec 9) (v : Byte) : (setBufByte s k v).csd = s.csd := rfl
@[simp] theorem setBufByte_rdata (s : State) (k : BitVec 9) (v : Byte) : (setBufByte s k v).rdata = s.rdata := rfl
@[simp] theorem setBufByte_inputs (s : State) (k : BitVec 9) (v : Byte) : (setBufByte s k v).inputs = s.inputs := rfl
@[simp] theorem setBufByte_rxQueue (s : State) (k : BitVec 9) (v : Byte) : (setBufByte s k v).rxQueue = s.rxQueue := rfl
@[simp] theorem setBufByte_timeQueue (s : State) (k : BitVec 9) (v : Byte) : (setBufByte s k v).timeQueue = s.timeQueue := rfl
@[simp] theorem setBufByte_burstQueue (s : State) (k : BitVec 9) (v : Byte) : (setBufByte s k v).burstQueue = s.burstQueue := rfl
@[simp] theorem setBufByte_draws (s : State) (k : BitVec 9) (v : Byte) : (setBufByte s k v).draws = s.draws := rfl
@[simp] theorem setBufByte_stalled (s : State) (k : BitVec 9) (v : Byte) : (setBufByte s k v).stalled = s.stalled := rfl
@[simp] theorem setBufByte_resets (s : State) (k : BitVec 9) (v : Byte) : (setBufByte s k v).resets = s.resets := rfl
@[simp] theorem setBufByte_trace (s : State) (k : BitVec 9) (v : Byte) : (setBufByte s k v).trace = s.trace := rfl

/-! ## `drawBurst` -/

@[simp] theorem drawBurst_blkaddr (s : State) : (drawBurst s).blkaddr = s.blkaddr := rfl
@[simp] theorem drawBurst_rcrc (s : State) : (drawBurst s).rcrc = s.rcrc := rfl
@[simp] theorem drawBurst_baudHz (s : State) : (drawBurst s).baudHz = s.baudHz := rfl
@[simp] theorem drawBurst_tReadyMs (s : State) : (drawBurst s).tReadyMs = s.tReadyMs := rfl
@[simp] theorem drawBurst_nR1 (s : State) : (drawBurst s).nR1 = s.nR1 := rfl
@[simp] theorem drawBurst_nToken (s : State) : (drawBurst s).nToken = s.nToken := rfl
@[simp] theorem drawBurst_nProg (s : State) : (drawBurst s).nProg = s.nProg := rfl
@[simp] theorem drawBurst_tInitMs (s : State) : (drawBurst s).tInitMs = s.tInitMs := rfl
@[simp] theorem drawBurst_nSync (s : State) : (drawBurst s).nSync = s.nSync := rfl
@[simp] theorem drawBurst_datainPin (s : State) : (drawBurst s).datainPin = s.datainPin := rfl
@[simp] theorem drawBurst_busy (s : State) : (drawBurst s).busy = s.busy := rfl
@[simp] theorem drawBurst_done (s : State) : (drawBurst s).done = s.done := rfl
@[simp] theorem drawBurst_err (s : State) : (drawBurst s).err = s.err := rfl
@[simp] theorem drawBurst_inited (s : State) : (drawBurst s).inited = s.inited := rfl
@[simp] theorem drawBurst_errcode (s : State) : (drawBurst s).errcode = s.errcode := rfl
@[simp] theorem drawBurst_phase (s : State) : (drawBurst s).phase = s.phase := rfl
@[simp] theorem drawBurst_cd (s : State) : (drawBurst s).cd = s.cd := rfl
@[simp] theorem drawBurst_cs (s : State) : (drawBurst s).cs = s.cs := rfl
@[simp] theorem drawBurst_curBaud (s : State) : (drawBurst s).curBaud = s.curBaud := rfl
@[simp] theorem drawBurst_buf (s : State) : (drawBurst s).buf = s.buf := rfl
@[simp] theorem drawBurst_frame (s : State) : (drawBurst s).frame = s.frame := rfl
@[simp] theorem drawBurst_lastR1 (s : State) : (drawBurst s).lastR1 = s.lastR1 := rfl
@[simp] theorem drawBurst_lastRx (s : State) : (drawBurst s).lastRx = s.lastRx := rfl
@[simp] theorem drawBurst_failPhase (s : State) : (drawBurst s).failPhase = s.failPhase := rfl
@[simp] theorem drawBurst_diagIfcond (s : State) : (drawBurst s).diagIfcond = s.diagIfcond := rfl
@[simp] theorem drawBurst_diagOcr (s : State) : (drawBurst s).diagOcr = s.diagOcr := rfl
@[simp] theorem drawBurst_diagCsd (s : State) : (drawBurst s).diagCsd = s.diagCsd := rfl
@[simp] theorem drawBurst_curOp (s : State) : (drawBurst s).curOp = s.curOp := rfl
@[simp] theorem drawBurst_curBlk (s : State) : (drawBurst s).curBlk = s.curBlk := rfl
@[simp] theorem drawBurst_cnt (s : State) : (drawBurst s).cnt = s.cnt := rfl
@[simp] theorem drawBurst_t0 (s : State) : (drawBurst s).t0 = s.t0 := rfl
@[simp] theorem drawBurst_t0Init (s : State) : (drawBurst s).t0Init = s.t0Init := rfl
@[simp] theorem drawBurst_burstCount (s : State) : (drawBurst s).burstCount = burstDelivered (burstNext s) := rfl
@[simp] theorem drawBurst_wireCrc (s : State) : (drawBurst s).wireCrc = s.wireCrc := rfl
@[simp] theorem drawBurst_w (s : State) : (drawBurst s).w = s.w := rfl
@[simp] theorem drawBurst_r1 (s : State) : (drawBurst s).r1 = s.r1 := rfl
@[simp] theorem drawBurst_ctl (s : State) : (drawBurst s).ctl = s.ctl := rfl
@[simp] theorem drawBurst_cmd (s : State) : (drawBurst s).cmd = s.cmd := rfl
@[simp] theorem drawBurst_rep (s : State) : (drawBurst s).rep = s.rep := rfl
@[simp] theorem drawBurst_csd (s : State) : (drawBurst s).csd = s.csd := rfl
@[simp] theorem drawBurst_rdata (s : State) : (drawBurst s).rdata = s.rdata := rfl
@[simp] theorem drawBurst_inputs (s : State) : (drawBurst s).inputs = s.inputs := rfl
@[simp] theorem drawBurst_rxQueue (s : State) : (drawBurst s).rxQueue = s.rxQueue := rfl
@[simp] theorem drawBurst_timeQueue (s : State) : (drawBurst s).timeQueue = s.timeQueue := rfl
@[simp] theorem drawBurst_burstQueue (s : State) : (drawBurst s).burstQueue = s.burstQueue.tail := rfl
@[simp] theorem drawBurst_draws (s : State) : (drawBurst s).draws = s.draws + 1 := rfl
@[simp] theorem drawBurst_stalled (s : State) : (drawBurst s).stalled = s.stalled := rfl
@[simp] theorem drawBurst_resets (s : State) : (drawBurst s).resets = s.resets := rfl
@[simp] theorem drawBurst_trace (s : State) : (drawBurst s).trace = s.trace := rfl

end Sys2Proof.Machine
end

