-- ==== Sys2Proof/Laws/Memory.lean ====
section
/-! SUPPORT. The laws of the buffer memory: read after write, and every operation keeps the canonical form. -/

namespace Sys2Proof.Machine

theorem Memory.get_set_same (m : Memory) (a : Nat) (b : Byte) : Memory.get (Memory.set m a b) a = some b := by
  induction m with
  | nil => simp [Memory.set, Memory.get]
  | cons cell rest ih =>
    obtain ⟨k, v⟩ := cell
    by_cases h1 : a < k
    · simp [Memory.set, Memory.get, h1]
    · by_cases h2 : a = k
      · simp [Memory.set, Memory.get, h2]
      · simp [Memory.set, Memory.get, h1, h2, ih]

theorem Memory.get_set_other (m : Memory) {a c : Nat} (b : Byte) (h : c ≠ a) :
    Memory.get (Memory.set m a b) c = Memory.get m c := by
  induction m with
  | nil => simp [Memory.set, Memory.get, h]
  | cons cell rest ih =>
    obtain ⟨k, v⟩ := cell
    by_cases h1 : a < k
    · simp [Memory.set, Memory.get, h1, h]
    · by_cases h2 : a = k
      · subst h2
        simp [Memory.set, Memory.get, h]
      · simp [Memory.set, Memory.get, h1, h2, ih]

theorem Memory.wfFrom_set {low : Nat} {m : Memory} {a : Nat} (b : Byte) (h : Memory.wfFrom low m = true)
    (hl : low ≤ a) (ha : a < blockLen) : Memory.wfFrom low (Memory.set m a b) = true := by
  induction m generalizing low with
  | nil => simp [Memory.set, Memory.wfFrom, hl, ha]
  | cons cell rest ih =>
    obtain ⟨k, v⟩ := cell
    simp only [Memory.wfFrom, Bool.and_eq_true, decide_eq_true_eq] at h
    obtain ⟨⟨h1, h2⟩, h3⟩ := h
    by_cases h4 : a < k
    · simp only [Memory.set, h4, if_true, Memory.wfFrom, Bool.and_eq_true, decide_eq_true_eq]
      exact ⟨⟨hl, ha⟩, ⟨by omega, h2⟩, h3⟩
    · by_cases h5 : a = k
      · simp only [Memory.set, h5, if_true, if_false, Memory.wfFrom, Bool.and_eq_true, decide_eq_true_eq, lt_irrefl]
        exact ⟨⟨h1, h2⟩, h3⟩
      · simp only [Memory.set, h4, h5, if_false, Memory.wfFrom, Bool.and_eq_true, decide_eq_true_eq]
        exact ⟨⟨h1, h2⟩, ih h3 (by omega)⟩

/-- Writing a byte of the buffer keeps the canonical form. -/
theorem Memory.wf_set {m : Memory} (k : BitVec 9) (b : Byte) (h : Memory.wf m = true) :
    Memory.wf (Memory.set m k.toNat b) = true :=
  Memory.wfFrom_set b h (Nat.zero_le _) (by have := k.isLt; simp only [blockLen]; omega)

theorem Memory.wf_reset : Memory.wf State.reset.buf = true := rfl

theorem bufByte_setBufByte_same (s : State) (k : BitVec 9) (v : Byte) : bufByte (setBufByte s k v) k = v := by
  simp [bufByte, Memory.get_set_same]

theorem bufByte_setBufByte_other (s : State) {k j : BitVec 9} (v : Byte) (h : j ≠ k) :
    bufByte (setBufByte s k v) j = bufByte s j := by
  have hn : j.toNat ≠ k.toNat := fun e => h (BitVec.eq_of_toNat_eq e)
  simp [bufByte, Memory.get_set_other _ _ hn]

/-- What a byte of the buffer is depends on the memory and the number of resets only. -/
theorem bufByte_congr {s t : State} (hb : t.buf = s.buf) (hr : t.resets = s.resets) (k : BitVec 9) :
    bufByte t k = bufByte s k := by
  simp [bufByte, hb, hr]

theorem bufBytes_congr {s t : State} (hb : t.buf = s.buf) (hr : t.resets = s.resets) : bufBytes t = bufBytes s := by
  simp [bufBytes, bufByte_congr hb hr]

theorem bufBytes_length (s : State) : (bufBytes s).length = blockLen := by simp [bufBytes]

end Sys2Proof.Machine
end

