-- ==== Sys2Proof/Laws/Ops.lean ====
section
/-! SUPPORT. One lemma per shared operation that says once everything it can do; later proofs cite these and do not unfold
the operation. -/

namespace Sys2Proof.Machine

/-! ## The ends of an operation -/

theorem raise_of_cs {e : ErrorKind} {s : State} (h : s.cs = true) : raise e s = { s with ctl := .release (some e) } := by
  simp [raise, h]

theorem raise_of_not_cs {e : ErrorKind} {s : State} (h : s.cs = false) : raise e s = complete (some e) s := by
  simp [raise, h]

theorem raise_cases (e : ErrorKind) (s : State) :
    (s.cs = true ∧ raise e s = { s with ctl := .release (some e) }) ∨ (s.cs = false ∧ raise e s = complete (some e) s) := by
  by_cases h : s.cs = true
  · exact .inl ⟨h, raise_of_cs h⟩
  · exact .inr ⟨by simpa using h, raise_of_not_cs (by simpa using h)⟩

/-! ## START -/

theorem start_of_busy {op : HostOp} {s : State} (h : s.busy = true) : start op s = s := by simp [start, h]

theorem start_of_idle {op : HostOp} {s : State} (h : s.busy = false) : start op s = launch (latchStart op s) := by
  simp [start, h]

theorem beginTransfer_of_inRange {c : Command} {o : BitVec 6} {s : State} (h : s.blkaddr < s.cd.blockcount) :
    beginTransfer c o s =
      { s with
        curBlk := s.blkaddr
        phase := .commandSent
        cmd := c
        ctl := .encode o (if s.cd.isHc then s.blkaddr else s.blkaddr * 512) } := by
  simp [beginTransfer, callCommand, inRange, blockArg, h]

theorem beginTransfer_of_outOfRange {c : Command} {o : BitVec 6} {s : State} (h : ¬ s.blkaddr < s.cd.blockcount) :
    beginTransfer c o s = complete (some .rangeError) { s with curBlk := s.blkaddr } := by
  simp [beginTransfer, inRange, h]

/-! ## Waits -/

theorem testReady_cases (s : State) :
    (s.tReadyMs ≤ timeNext s - s.t0 ∧ testReady s = raise .busyTimeout { sampleTime s with r1 := 0xFF }) ∨
    (¬ s.tReadyMs ≤ timeNext s - s.t0 ∧ testReady s = { sampleTime s with ctl := .readyPoll }) := by
  by_cases h : s.tReadyMs ≤ timeNext s - s.t0
  · exact .inl ⟨h, by simp [testReady, notReady, elapsed, h]⟩
  · exact .inr ⟨h, by simp [testReady, elapsed, h]⟩

theorem testBudget_cases (s : State) :
    (s.tInitMs ≤ timeNext s - s.t0Init ∧ testBudget s = raise .timeout (sampleTime s)) ∨
    (¬ s.tInitMs ≤ timeNext s - s.t0Init ∧ testBudget s = callCommand .cmd55 opcAppCmd argZero (sampleTime s)) := by
  by_cases h : s.tInitMs ≤ timeNext s - s.t0Init
  · exact .inl ⟨h, by simp [testBudget, elapsed, h]⟩
  · exact .inr ⟨h, by simp [testBudget, elapsed, h]⟩

theorem syncStep_cases (k : U32) (s : State) :
    (k < s.nSync ∧ syncStep k s = { exchange idleByte s with ctl := .sync (k + 1) }) ∨
    (¬ k < s.nSync ∧ syncStep k s = callCommand .cmd0 opcGoIdle argZero s) := by
  by_cases h : k < s.nSync
  · exact .inl ⟨h, by simp [syncStep, h]⟩
  · exact .inr ⟨h, by simp [syncStep, h]⟩

/-! ## Commands -/

/-- FRAME has no say in how a command phase begins. -/
theorem beginCommand_eq (c : Command) (s : State) :
    beginCommand c s =
      { s with
        cs := true
        trace := .csAssert :: s.trace
        cmd := c
        phase := c.phase
        ctl := if skipReady c then .frame 0 else .readyTime } := rfl

/-- `DIAG.LAST_RX` after the flush byte of a failure exit, and all else as an exchange leaves it. -/
theorem flushFailure_cases (e : ErrorKind) (s : State) :
    (e.recordsRx = true ∧ flushFailure e s = { exchange idleByte s with lastRx := s.lastRx }) ∨
    (e.recordsRx = false ∧ flushFailure e s = exchange idleByte s) := by
  cases h : e.recordsRx
  · exact .inr ⟨rfl, by simp [flushFailure, h, exchange]⟩
  · exact .inl ⟨rfl, by simp [flushFailure, h]⟩

/-! ## Block transfer -/

theorem recvPayload_cases (k : BitVec 10) (s : State) :
    (k < s.burstCount ∧ recvPayload k s =
      { setBufByte (exchange idleByte s) (k.setWidth 9) (rxNext s) with ctl := .payloadIn (k + 1) }) ∨
    (¬ k < s.burstCount ∧ recvPayload k s = { s with ctl := .checkInHi }) := by
  by_cases h : k < s.burstCount
  · exact .inl ⟨h, by simp [recvPayload, h]⟩
  · exact .inr ⟨h, by simp [recvPayload, h]⟩

theorem checkBlock_cases (s : State) :
    (s.burstCount ≠ 512 ∧ checkBlock s = raise .inconsistent s) ∨
    (s.burstCount = 512 ∧ Config.crc16 (bufBytes s) ≠ s.wireCrc ∧ checkBlock s = raise .crcMismatch s) ∨
    (s.burstCount = 512 ∧ Config.crc16 (bufBytes s) = s.wireCrc ∧ checkBlock s = { s with ctl := .release none }) := by
  by_cases h : s.burstCount = 512
  · by_cases h2 : Config.crc16 (bufBytes s) = s.wireCrc
    · exact .inr (.inr ⟨h, h2, by rw [checkBlock, if_pos h, if_pos h2]⟩)
    · exact .inr (.inl ⟨h, h2, by rw [checkBlock, if_pos h, if_neg h2]⟩)
  · exact .inl ⟨h, by rw [checkBlock, if_neg h]⟩

/-- A delivered burst never exceeds a block. -/
theorem burstDelivered_le (n : BitVec 10) : burstDelivered n ≤ 512 := by
  unfold burstDelivered
  split
  · decide
  · split
    · split
      · assumption
      · decide
    · decide

/-! ## Meanings -/

/-- Every instruction has a next state in every state. -/
theorem exec_total (i : Instr) (s : State) : ∃ t, exec i s = .next t := by
  cases i <;>
    simp only [exec, execNop, execInit, execRead, execWrite, execCmd0, execCmd8, execCmd55, execAcmd41, execCmd58, execCmd9,
      execCmd16, execCmd17, execCmd24, execEncode, execR1, execDataStart, execDataResponseAccepted, execIdle] <;>
    (try split) <;> (try split) <;> exact ⟨_, rfl⟩

end Sys2Proof.Machine
end

