-- ==== Sys2Proof/Laws/PerInstr.lean ====
section
/-! SUPPORT. Facts made per instruction: each has a slot that takes it, and the width of its word is that slot's. -/

namespace Sys2Proof.Laws

/-- The word of an instruction has the width of every slot that takes it, and there is such a slot (R80). -/
def SlotWidth.Statement (i : Instr) : Prop :=
  i.slots ≠ [] ∧ ∀ slot ∈ i.slots, decode slot (encode i) ≠ .error .width

theorem ctrl_width (v : U32) : decode .ctrl (.ctrl v) ≠ .error .width := by simp [decode]

theorem commandOf_width (o : BitVec 6) (a : U32) : commandOf o a ≠ .error .width := by
  unfold commandOf
  repeat' split
  all_goals simp

theorem frame_width (f : Frame) :
    decode .command (.frame f) ≠ .error .width ∧ decode .encoder (.frame f) ≠ .error .width := by
  constructor
  · simp only [decode, decodeCommand]
    repeat' split
    · exact commandOf_width _ _
    · simp
    · simp
  · simp only [decode, decodeEncoder]
    split <;> simp

theorem byte_width (b : Byte) :
    decode .ready (.byte b) ≠ .error .width ∧ decode .r1 (.byte b) ≠ .error .width ∧
    decode .token (.byte b) ≠ .error .width ∧ decode .dataResponse (.byte b) ≠ .error .width ∧
    decode .programming (.byte b) ≠ .error .width := by
  simp only [decode, decodeIdle, decodeR1, decodeToken, decodeDataResponse]
  refine ⟨?_, ?_, ?_, ?_, ?_⟩ <;> split <;> simp

theorem SlotWidth.nop : SlotWidth.Statement .nop :=
  ⟨by simp [Instr.slots], by simp [Instr.slots, Sys2Proof.encode, ctrl_width]⟩

theorem SlotWidth.init : SlotWidth.Statement .init :=
  ⟨by simp [Instr.slots], by simp [Instr.slots, Sys2Proof.encode, ctrl_width]⟩

theorem SlotWidth.read : SlotWidth.Statement .read :=
  ⟨by simp [Instr.slots], by simp [Instr.slots, Sys2Proof.encode, ctrl_width]⟩

theorem SlotWidth.write : SlotWidth.Statement .write :=
  ⟨by simp [Instr.slots], by simp [Instr.slots, Sys2Proof.encode, ctrl_width]⟩

theorem SlotWidth.cmd0 : SlotWidth.Statement .cmd0 :=
  ⟨by simp [Instr.slots], by simp [Instr.slots, Sys2Proof.encode, frame_width]⟩

theorem SlotWidth.cmd8 : SlotWidth.Statement .cmd8 :=
  ⟨by simp [Instr.slots], by simp [Instr.slots, Sys2Proof.encode, frame_width]⟩

theorem SlotWidth.cmd55 : SlotWidth.Statement .cmd55 :=
  ⟨by simp [Instr.slots], by simp [Instr.slots, Sys2Proof.encode, frame_width]⟩

theorem SlotWidth.acmd41 : SlotWidth.Statement .acmd41 :=
  ⟨by simp [Instr.slots], by simp [Instr.slots, Sys2Proof.encode, frame_width]⟩

theorem SlotWidth.cmd58 : SlotWidth.Statement .cmd58 :=
  ⟨by simp [Instr.slots], by simp [Instr.slots, Sys2Proof.encode, frame_width]⟩

theorem SlotWidth.cmd9 : SlotWidth.Statement .cmd9 :=
  ⟨by simp [Instr.slots], by simp [Instr.slots, Sys2Proof.encode, frame_width]⟩

theorem SlotWidth.cmd16 : SlotWidth.Statement .cmd16 :=
  ⟨by simp [Instr.slots], by simp [Instr.slots, Sys2Proof.encode, frame_width]⟩

theorem SlotWidth.cmd17 (a : U32) : SlotWidth.Statement (.cmd17 a) :=
  ⟨by simp [Instr.slots], by simp [Instr.slots, Sys2Proof.encode, frame_width]⟩

theorem SlotWidth.cmd24 (a : U32) : SlotWidth.Statement (.cmd24 a) :=
  ⟨by simp [Instr.slots], by simp [Instr.slots, Sys2Proof.encode, frame_width]⟩

theorem SlotWidth.encode (o : BitVec 6) (a : U32) (c : Byte) : SlotWidth.Statement (.encode o a c) :=
  ⟨by simp [Instr.slots], by simp [Instr.slots, Sys2Proof.encode, frame_width]⟩

theorem SlotWidth.r1 (st : BitVec 7) : SlotWidth.Statement (.r1 st) :=
  ⟨by simp [Instr.slots], by simp [Instr.slots, Sys2Proof.encode, byte_width]⟩

theorem SlotWidth.dataStart : SlotWidth.Statement .dataStart :=
  ⟨by simp [Instr.slots], by simp [Instr.slots, Sys2Proof.encode, byte_width]⟩

theorem SlotWidth.dataResponseAccepted (ig : BitVec 3) : SlotWidth.Statement (.dataResponseAccepted ig) :=
  ⟨by simp [Instr.slots], by simp [Instr.slots, Sys2Proof.encode, byte_width]⟩

theorem SlotWidth.idle : SlotWidth.Statement .idle :=
  ⟨by simp [Instr.slots], by simp [Instr.slots, Sys2Proof.encode, byte_width]⟩

end Sys2Proof.Laws
end

