-- ==== Sys2Proof/Laws/Step.lean ====
section
/-! SUPPORT. What a step can do, said once: the turn it takes and how the turn ends. -/

namespace Sys2Proof.Machine

theorem runTurn_run (i : Instr) (s : State) : runTurn (.run i s) = exec i s := rfl

theorem runTurn_move (s : State) : runTurn (.move s) = .next s := rfl

/-- A turn that ends in a next state either moved there or ran an instruction that answers it. -/
theorem runTurn_next {turn : Turn} {t : State} (h : runTurn turn = .next t) :
    turn = .move t ∨ ∃ i s, turn = .run i s ∧ exec i s = .next t := by
  cases turn with
  | run i s => exact .inr ⟨i, s, rfl, h⟩
  | move s => simp only [runTurn_move, Host.Outcome.next.injEq] at h; exact .inl (by rw [h])
  | hung => simp [runTurn] at h

theorem ownTurn_of_running {s : State} (h : s.stalled = false) : ownTurn s = controllerTurn s := by simp [ownTurn, h]

theorem ownTurn_cases (s : State) :
    (s.stalled = true ∧ exchangeDue s = true ∧ ownTurn s = .hung) ∨ ownTurn s = controllerTurn s := by
  cases h : s.stalled
  · exact .inr (ownTurn_of_running h)
  · cases hx : exchangeDue s
    · exact .inr (by simp [ownTurn, hx])
    · exact .inl ⟨rfl, rfl, by simp [ownTurn, h, hx]⟩

/-- The turn of a step, by the first pending input. -/
theorem nextTurn_cases (s : State) :
    (s.inputs = [] ∧ nextTurn s = ownTurn s) ∨
    (∃ rest, s.inputs = .turn :: rest ∧ nextTurn s = ownTurn { s with inputs := rest }) ∨
    (∃ a rest, s.inputs = .host a :: rest ∧ nextTurn s = hostTurn a { s with inputs := rest }) ∨
    (∃ rest, s.inputs = .reset :: rest ∧ nextTurn s = .move (resetController { s with inputs := rest })) ∨
    (∃ rest, s.inputs = .hang :: rest ∧ nextTurn s = .move { s with inputs := rest, stalled := true }) ∨
    (∃ rest, s.inputs = .poll :: rest ∧ s.done = true ∧
      nextTurn s = .move { s with inputs := rest, rdata := statusWord s }) ∨
    (∃ rest, s.inputs = .poll :: rest ∧ s.done = false ∧ nextTurn s = ownTurn { s with rdata := statusWord s }) := by
  cases hi : s.inputs with
  | nil => exact .inl ⟨rfl, by simp [nextTurn, hi]⟩
  | cons head rest =>
    cases head with
    | turn => exact .inr (.inl ⟨rest, rfl, by simp [nextTurn, hi]⟩)
    | host a => exact .inr (.inr (.inl ⟨a, rest, rfl, by simp [nextTurn, hi]⟩))
    | reset => exact .inr (.inr (.inr (.inl ⟨rest, rfl, by simp [nextTurn, hi]⟩)))
    | hang => exact .inr (.inr (.inr (.inr (.inl ⟨rest, rfl, by simp [nextTurn, hi]⟩))))
    | poll =>
      cases hd : s.done
      · exact .inr (.inr (.inr (.inr (.inr (.inr ⟨rest, rfl, rfl, by simp [nextTurn, hi, hd]⟩)))))
      · exact .inr (.inr (.inr (.inr (.inr (.inl ⟨rest, rfl, rfl, by simp [nextTurn, hi, hd]⟩)))))

/-- With no pending input and a running transport a step is the controller's. -/
theorem step_of_no_input {s : State} (h : s.inputs = []) (hr : s.stalled = false) : step s = controllerStep s := by
  simp [step, controllerStep, nextTurn, h, ownTurn_of_running hr]

/-- A step stops only where the transport hangs. -/
theorem step_stops {s : State} : (∀ r, step s = .fault r → r = .transportHung) ∧ ∀ r, step s ≠ .refused r := by
  unfold step
  cases nextTurn s with
  | run i u => obtain ⟨t, ht⟩ := exec_total i u; simp [runTurn_run, ht]
  | move u => simp [runTurn_move]
  | hung => simp [runTurn]

end Sys2Proof.Machine
end

