-- ==== Sys2Proof/Laws/Turn.lean ====
section
/-! SUPPORT. What the controller's step is at each control point: the inversion of `controllerStep`, said once. -/

namespace Sys2Proof.Machine

/-! ## Points that take no word -/

theorem controllerStep_idle {s : State} (h : s.ctl = .idle) : controllerStep s = .next (s) := by
  simp [controllerStep, controllerTurn, h, runTurn]

theorem controllerStep_initBaud {s : State} (h : s.ctl = .initBaud) : controllerStep s = .next (initBaud s) := by
  simp [controllerStep, controllerTurn, h, runTurn]

theorem controllerStep_sync {sent : U32} {s : State} (h : s.ctl = .sync sent) : controllerStep s = .next (syncStep sent s) := by
  simp [controllerStep, controllerTurn, h, runTurn]

theorem controllerStep_initTime {s : State} (h : s.ctl = .initTime) : controllerStep s = .next (startOpCond s) := by
  simp [controllerStep, controllerTurn, h, runTurn]

theorem controllerStep_readyTime {s : State} (h : s.ctl = .readyTime) : controllerStep s = .next (startReady s) := by
  simp [controllerStep, controllerTurn, h, runTurn]

theorem controllerStep_readyTest {s : State} (h : s.ctl = .readyTest) : controllerStep s = .next (testReady s) := by
  simp [controllerStep, controllerTurn, h, runTurn]

theorem controllerStep_frame {k : Fin 6} {s : State} (h : s.ctl = .frame k) : controllerStep s = .next (sendFrame k s) := by
  simp [controllerStep, controllerTurn, h, runTurn]

theorem controllerStep_frameFlush {s : State} (h : s.ctl = .frameFlush) : controllerStep s = .next (flushFrame s) := by
  simp [controllerStep, controllerTurn, h, runTurn]

theorem controllerStep_afterR1 {s : State} (h : s.ctl = .afterR1) : controllerStep s = .next (afterR1 s) := by
  simp [controllerStep, controllerTurn, h, runTurn]

theorem controllerStep_r1Test {s : State} (h : s.ctl = .r1Test) : controllerStep s = .next (testR1 s) := by
  simp [controllerStep, controllerTurn, h, runTurn]

theorem controllerStep_reply {k : Fin 4} {s : State} (h : s.ctl = .reply k) : controllerStep s = .next (recvReply k s) := by
  simp [controllerStep, controllerTurn, h, runTurn]

theorem controllerStep_csd {k : Fin 16} {s : State} (h : s.ctl = .csd k) : controllerStep s = .next (recvCsd k s) := by
  simp [controllerStep, controllerTurn, h, runTurn]

theorem controllerStep_csdCheck {k : Fin 2} {s : State} (h : s.ctl = .csdCheck k) : controllerStep s = .next (recvCsdCheck k s) := by
  simp [controllerStep, controllerTurn, h, runTurn]

theorem controllerStep_burst {s : State} (h : s.ctl = .burst) : controllerStep s = .next (startBurst s) := by
  simp [controllerStep, controllerTurn, h, runTurn]

theorem controllerStep_payloadIn {k : BitVec 10} {s : State} (h : s.ctl = .payloadIn k) : controllerStep s = .next (recvPayload k s) := by
  simp [controllerStep, controllerTurn, h, runTurn]

theorem controllerStep_checkInHi {s : State} (h : s.ctl = .checkInHi) : controllerStep s = .next (recvCheckHi s) := by
  simp [controllerStep, controllerTurn, h, runTurn]

theorem controllerStep_checkInLo {s : State} (h : s.ctl = .checkInLo) : controllerStep s = .next (recvCheckLo s) := by
  simp [controllerStep, controllerTurn, h, runTurn]

theorem controllerStep_crcCheck {s : State} (h : s.ctl = .crcCheck) : controllerStep s = .next (checkBlock s) := by
  simp [controllerStep, controllerTurn, h, runTurn]

theorem controllerStep_payloadOut {k : BitVec 9} {s : State} (h : s.ctl = .payloadOut k) : controllerStep s = .next (sendPayload k s) := by
  simp [controllerStep, controllerTurn, h, runTurn]

theorem controllerStep_checkOutHi {s : State} (h : s.ctl = .checkOutHi) : controllerStep s = .next (sendCheckHi s) := by
  simp [controllerStep, controllerTurn, h, runTurn]

theorem controllerStep_checkOutLo {s : State} (h : s.ctl = .checkOutLo) : controllerStep s = .next (sendCheckLo s) := by
  simp [controllerStep, controllerTurn, h, runTurn]

theorem controllerStep_release {e : Option ErrorKind} {s : State} (h : s.ctl = .release e) : controllerStep s = .next (releaseCs e s) := by
  simp [controllerStep, controllerTurn, h, runTurn]

theorem controllerStep_flush {e : Option ErrorKind} {s : State} (h : s.ctl = .flush e) : controllerStep s = .next (flushRelease e s) := by
  simp [controllerStep, controllerTurn, h, runTurn]

theorem controllerStep_budget {s : State} (h : s.ctl = .budget) : controllerStep s = .next (testBudget s) := by
  simp [controllerStep, controllerTurn, h, runTurn]

theorem controllerStep_raiseBaud {s : State} (h : s.ctl = .raiseBaud) : controllerStep s = .next (raiseBaud s) := by
  simp [controllerStep, controllerTurn, h, runTurn]

theorem controllerStep_commit {s : State} (h : s.ctl = .commit) : controllerStep s = .next (commitInit s) := by
  simp [controllerStep, controllerTurn, h, runTurn]

/-! ## Points that take a word -/

theorem controllerStep_encode {o : BitVec 6} {a : U32} {s : State} (h : s.ctl = .encode o a) :
    controllerStep s = .next { s with ctl := .command, frame := encodeFrame o a } := by
  simp [controllerStep, controllerTurn, h, runTurn, exec, execEncode]

/-- At the head of a command phase the frame in FRAME is run; one that is no command is sent as the command called. -/
theorem controllerStep_command {s : State} (h : s.ctl = .command) :
    (∃ i, decodeCommand s.frame = .ok i ∧ controllerStep s = exec i s) ∨
    (∃ r, decodeCommand s.frame = .error r ∧ controllerStep s = .next (beginCommand s.cmd s)) := by
  cases hd : decodeCommand s.frame with
  | ok i => exact .inl ⟨i, rfl, by simp [controllerStep, controllerTurn, h, orElse, decode, hd, runTurn]⟩
  | error r => exact .inr ⟨r, rfl, by simp [controllerStep, controllerTurn, h, orElse, decode, hd, runTurn]⟩

/-- A word of the command slot is one of the nine commands. -/
theorem commandOf_ok {o : BitVec 6} {a : U32} {i : Instr} (h : commandOf o a = .ok i) :
    i = .cmd17 a ∨ i = .cmd24 a ∨ i = .cmd0 ∨ i = .cmd8 ∨ i = .cmd55 ∨ i = .acmd41 ∨ i = .cmd58 ∨ i = .cmd9 ∨ i = .cmd16 := by
  unfold commandOf at h
  repeat' split at h
  all_goals first
    | (cases h; simp)
    | simp at h

theorem controllerStep_readyPoll {s : State} (h : s.ctl = .readyPoll) :
    controllerStep s =
      .next (if rxNext s = idleByte then { pollReady s with ctl := .frame 0 } else readyBusy (pollReady s)) := by
  by_cases hb : rxNext s = idleByte <;>
    simp [controllerStep, controllerTurn, h, orElse, decode, decodeIdle, hb, runTurn, exec, execIdle, pollReady]

/-- A valid R1 byte is its seven low bits. -/
theorem r1_byte {b : Byte} (h : b.msb = false) : 0#1 ++ b.extractLsb' 0 7 = b := by
  apply BitVec.eq_of_getLsbD_eq
  intro i hi
  simp only [BitVec.getLsbD_append, BitVec.getLsbD_extractLsb']
  by_cases h1 : i < 7
  · simp [h1]
  · have h2 : i = 7 := by omega
    subst h2
    have h3 : b.getLsbD 7 = false := by simpa [BitVec.msb_eq_getLsbD_last] using h
    simpa using h3.symm

theorem controllerStep_waitR1 {s : State} (h : s.ctl = .waitR1) :
    controllerStep s =
      .next (if s.cnt < s.nR1 then (if (rxNext s).msb then pollR1 s else endR1 (pollR1 s)) else endR1 s) := by
  by_cases hc : s.cnt < s.nR1
  · cases hb : (rxNext s).msb
    · have hr := r1_byte hb
      simp [controllerStep, controllerTurn, h, hc, orElse, decode, decodeR1, hb, runTurn, exec, execR1, pollR1, endR1, hr]
    · simp [controllerStep, controllerTurn, h, hc, orElse, decode, decodeR1, hb, runTurn]
  · simp [controllerStep, controllerTurn, h, hc, runTurn]

theorem controllerStep_waitToken {s : State} (h : s.ctl = .waitToken) :
    controllerStep s =
      .next (if s.cnt < s.nToken then (if rxNext s = tokenStart then tokenFound (pollCounted s) else pollCounted s)
        else raise .tokenTimeout s) := by
  by_cases hc : s.cnt < s.nToken
  · by_cases hb : rxNext s = tokenStart <;>
      simp [controllerStep, controllerTurn, h, hc, orElse, decode, decodeToken, hb, runTurn, exec, execDataStart, pollCounted]
  · simp [controllerStep, controllerTurn, h, hc, runTurn]

theorem controllerStep_token {s : State} (h : s.ctl = .token) : controllerStep s = .next (sendToken s) := by
  simp [controllerStep, controllerTurn, h, runTurn, exec, execDataStart]

theorem controllerStep_response {s : State} (h : s.ctl = .response) :
    controllerStep s =
      .next (if (rxNext s).extractLsb' 0 5 = dataAccepted then startProg { exchange idleByte s with phase := .programWait }
        else raise .writeRejected (exchange idleByte s)) := by
  by_cases hb : (rxNext s).extractLsb' 0 5 = dataAccepted <;>
    simp [controllerStep, controllerTurn, h, orElse, decode, decodeDataResponse, hb, runTurn, exec, execDataResponseAccepted]

theorem controllerStep_waitProg {s : State} (h : s.ctl = .waitProg) :
    controllerStep s =
      .next (if s.cnt < s.nProg then
          (if rxNext s = idleByte then { pollCounted s with ctl := .release none } else pollCounted s)
        else progExhausted s) := by
  by_cases hc : s.cnt < s.nProg
  · by_cases hb : rxNext s = idleByte <;>
      simp [controllerStep, controllerTurn, h, hc, orElse, decode, decodeIdle, hb, runTurn, exec, execIdle, pollCounted]
  · simp [controllerStep, controllerTurn, h, hc, runTurn]

end Sys2Proof.Machine
end

