-- ==== Sys2Proof/Laws/Runs.lean ====
section
/-! SUPPORT. Runs of the controller: one step more, two runs in sequence, and the trace of a run of exchanges. -/

namespace Sys2Proof.Machine

theorem controllerRun_succ {n : Nat} {s t : State} (h : controllerStep s = .next t) :
    controllerRun (n + 1) s = controllerRun n t := by
  simp [controllerRun, h]

theorem controllerRun_one {s : State} : controllerRun 1 s = controllerStep s := by
  simp only [controllerRun]
  cases controllerStep s <;> rfl

/-- A run that reaches `t` goes on as a run from `t`. -/
theorem controllerRun_add {m n : Nat} {s t : State} (h : controllerRun m s = .next t) :
    controllerRun (m + n) s = controllerRun n t := by
  induction m generalizing s with
  | zero =>
    simp only [controllerRun, Host.Outcome.next.injEq] at h
    simp [h]
  | succ m ih =>
    rw [show m + 1 + n = (m + n) + 1 by omega]
    simp only [controllerRun] at h ⊢
    cases hs : controllerStep s with
    | next u => simp only [hs] at h ⊢; exact ih h
    | fault r => simp [hs] at h
    | refused r => simp [hs] at h

theorem exchanges_nil : exchanges [] [] = [] := rfl

/-- The first exchange of a run is the last of its trace. -/
theorem exchanges_cons (a b : Byte) (xs ys : List Byte) :
    exchanges (a :: xs) (b :: ys) = exchanges xs ys ++ [.xchg a b] := by
  simp [exchanges]

theorem exchanges_append {xs ys xs' ys' : List Byte} (h : xs.length = ys.length) :
    exchanges (xs ++ xs') (ys ++ ys') = exchanges xs' ys' ++ exchanges xs ys := by
  simp [exchanges, List.zipWith_append h]

end Sys2Proof.Machine
end

