-- ==== Sys2Proof/Tests/Slice0.lean ====
section
/-! SUPPORT. The model's own tests: well-formedness, decoding, the checksums, one step per instruction, and a witness for the
hypotheses of every statement. Expected values are the spec's: its tables, its worked examples and the vectors of
spec/95_test_vectors.md, each named. -/

namespace Sys2Proof.Tests

open Sys2Proof.Machine

set_option maxRecDepth 20000

/-! ## Helpers -/

/-- A state with a value for every parameter the spec leaves open: those its vectors use. -/
def base : State :=
  { State.reset with baudHz := 5000000, nProg := 1000000, tInitMs := 1000, datainPin := 4, curBaud := 400000 }

/-- A controller with a card of 1024 blocks, at rest. -/
def card (hc : Bool) : State := { base with cd := ⟨hc, 1, 0, 1024, 524288⟩, inited := true }

/-- A controller in the course of an operation, at a control point, with the card's next bytes. -/
def busyAt (op : HostOp) (c : Command) (p : Phase) (ctl : Ctl) (rx : List Byte) : State :=
  { card false with busy := true, curOp := op, cmd := c, phase := p, ctl := ctl, rxQueue := rx }

/-- Inside a transaction of READ or WRITE. -/
def inside (op : HostOp) (c : Command) (p : Phase) (ctl : Ctl) (rx : List Byte) : State :=
  { busyAt op c p ctl rx with cs := true, trace := [.csAssert] }

/-- INIT in progress, outside a transaction. -/
def initAt (p : Phase) (ctl : Ctl) (rx : List Byte) : State :=
  { base with busy := true, curOp := .init, phase := p, ctl := ctl, rxQueue := rx }

/-- A test of the next state, false where there is none. -/
def nextIs (o : Host.Outcome State Fault Refusal) (p : State → Bool) : Bool :=
  match o with
  | .next t => p t
  | .fault _ => false
  | .refused _ => false

/-- With a host action pending. -/
def doing (a : HostAction) (s : State) : State := { s with inputs := [.host a] }

/-! ## Well-formedness -/

/-- The one check: a frame of opcode 0 whose check byte is another than the checksum gives is refused (R84). -/
theorem test_wellFormed_refuses_wrong_check : Instr.wellFormed (.encode 0 0 (checkByte 0 0 + 1)) = false := by
  simp [Instr.wellFormed]

/-- A frame of opcode 17 with a computed check byte is refused: it carries the fill byte (R84). -/
theorem test_wellFormed_refuses_check_where_fill : Instr.wellFormed (.encode 17 5 0x95) = false := by decide

theorem test_wellFormed_accepts : Instr.wellFormed (.encode 55 0 0xFF) = true := by decide

/-! ## Decoding: one word per constructor, from the tables of R81, R86, R87, R90 to R92 and R94 -/

theorem test_decode_nop : decode .ctrl (.ctrl 0xFFFFFFFC) = .ok .nop := by decide
theorem test_decode_init : decode .ctrl (.ctrl 0b01) = .ok .init := by decide
theorem test_decode_read : decode .ctrl (.ctrl 0b10) = .ok .read := by decide
theorem test_decode_write : decode .ctrl (.ctrl 0b11) = .ok .write := by decide
theorem test_decode_cmd0 : decode .command (.frame 0x400000000095) = .ok .cmd0 := by decide
theorem test_decode_cmd8 : decode .command (.frame 0x48000001AA87) = .ok .cmd8 := by decide
theorem test_decode_cmd55 : decode .command (.frame 0x7700000000FF) = .ok .cmd55 := by decide
theorem test_decode_acmd41 : decode .command (.frame 0x6940000000FF) = .ok .acmd41 := by decide
theorem test_decode_cmd58 : decode .command (.frame 0x7A00000000FF) = .ok .cmd58 := by decide
theorem test_decode_cmd9 : decode .command (.frame 0x4900000000FF) = .ok .cmd9 := by decide
theorem test_decode_cmd16 : decode .command (.frame 0x5000000200FF) = .ok .cmd16 := by decide
/-- V-ENC-15, its bits written out: marker, opcode, four argument bytes, fill byte. -/
theorem test_decode_cmd17 :
    decode .command (.frame (0b01#2 ++ 0b010001#6 ++ 0x12#8 ++ 0x34#8 ++ 0x56#8 ++ 0x78#8 ++ 0xFF#8)) =
      .ok (.cmd17 0x12345678) := by decide
/-- V-ENC-14. -/
theorem test_decode_cmd24 : decode .command (.frame 0x580007FE00FF) = .ok (.cmd24 0x0007FE00) := by decide
/-- V-ENC-16. -/
theorem test_decode_encode : decode .encoder (.frame 0x7FFFFFFFFFFF) = .ok (.encode 63 0xFFFFFFFF 0xFF) := by decide
theorem test_decode_r1 : decode .r1 (.byte 0b00000101) = .ok (.r1 5) := by decide
theorem test_decode_dataStart : decode .token (.byte 0b11111110) = .ok .dataStart := by decide
/-- V-WRT-4: `E5` passes. -/
theorem test_decode_dataResponse : decode .dataResponse (.byte 0b11100101) = .ok (.dataResponseAccepted 7) := by decide
theorem test_decode_idle :
    decode .ready (.byte 0b11111111) = .ok .idle ∧ decode .programming (.byte 0b11111111) = .ok .idle := by decide

/-- What is no word of its slot is rejected by name: a frame whose first bit is set (R82), a wrong check byte (R84), a frame
the controller never sends (R95), a byte with bit 7 set (R87), an error token (R90), `0B` (V-WRT-4), a busy byte (R92). -/
theorem test_decode_rejects :
    decode .command (.frame 0xC00000000095) = .error .marker ∧ decode .command (.frame 0x510000000595) = .error .check ∧
    decode .command (.frame 0x4100000000FF) = .error .otherFrame ∧ decode .r1 (.byte 0x80) = .error .notR1 ∧
    decode .token (.byte 0x0B) = .error .notToken ∧ decode .dataResponse (.byte 0x0B) = .error .notAccepted ∧
    decode .ready (.byte 0x7F) = .error .notIdle ∧ decode .r1 (.ctrl 0) = .error .width := by decide

/-! ## Checksums -/

/-- V-CRC-1 to V-CRC-4 and V-ENC-18. -/
theorem test_crc7Default :
    crc7Default 0x4000000000 = 0x95 ∧ crc7Default 0x48000001AA = 0x87 ∧ crc7Default 0x4000000001 = 0x87 ∧
    crc7Default 0x4800000000 = 0xC3 ∧ crc7Default 0x48FFFFFFFF = 0xE9 := by decide

/-- V-CRC-5 to V-CRC-7. -/
theorem test_crc16Default :
    crc16Default [] = 0 ∧ crc16Default [1] = 0x1021 ∧
    crc16Default [0x31, 0x32, 0x33, 0x34, 0x35, 0x36, 0x37, 0x38, 0x39] = 0x31C3 := by decide

/-! ## The CSD -/

/-- V-CSD-2: the size field, block count and byte size of program P1, the last modulo 2^32. -/
theorem test_parseCsd_modern :
    parseCsd 0x40000000000000003B37000000000000 Descriptor.zero = ⟨false, 1, 15159, 15523840, 3653238784⟩ := by decide

/-- V-CSD-5: a block count of 2^32 wraps to 0; V-CSD-6: another version has no capacity. -/
theorem test_parseCsd_corners :
    (parseCsd 0x40000000000000FFFFFF000000000000 Descriptor.zero).blockcount = 0 ∧
    parseCsd 0x000000000000003FFFFF000000000000 Descriptor.zero = ⟨false, 0, 0, 0, 0⟩ := by decide

/-! ## One step -/

/-- R182: a `CTRL` write with zero low bits changes nothing. -/
theorem test_step_nop : nextIs (step (doing (.regWrite 0 0x10) base)) (· == base) = true := by decide

/-- R141. -/
theorem test_step_init : nextIs (step (doing (.regWrite 0 1) (card true)))
    (fun t => t.busy && t.phase == .iPrep && t.cd.blockcount == 0 && !t.inited && t.trace == []) = true := by decide

/-- V-ENC-11: block 5 on a card that is not high-capacity gives argument 0xA00. -/
theorem test_step_read : nextIs (step (doing (.regWrite 0 2) { card false with blkaddr := 5 }))
    (fun t => t.ctl == .encode 17 0xA00 && t.phase == .commandSent && t.busy) = true := by decide

/-- E3: block 1024 of 1024 is a `RangeError` with an empty trace. -/
theorem test_step_read_out_of_range : nextIs (step (doing (.regWrite 0 2) { card false with blkaddr := 1024 }))
    (fun t => regRead 2 t == 5 && t.phase == .failed && t.trace == [] && !t.busy) = true := by decide

/-- V-ENC-12: block 3 on a high-capacity card gives argument 3. -/
theorem test_step_write : nextIs (step (doing (.regWrite 0 3) { card true with blkaddr := 3 }))
    (fun t => t.ctl == .encode 24 3 && t.curOp == .write && t.busy) = true := by decide

/-- R23: a `CTRL` write while busy is lost. -/
theorem test_step_write_while_busy :
    nextIs (step (doing (.regWrite 0 3) (inside .read .cmd17 .tokenWait .waitToken [])))
      (fun t => t.ctl == .waitToken && t.curOp == .read && t.inputs == []) = true := by decide

/-- V-EX-1: `CS+`, then the frame, with no time reading. -/
theorem test_step_cmd0 : nextIs (step { initAt .iSync .command [] with frame := 0x400000000095 })
    (fun t => t.trace == [.csAssert] && t.ctl == .frame 0 && t.phase == .iReset) = true := by decide

/-- V-EX-2. -/
theorem test_step_cmd8 : nextIs (step { initAt .iReset .command [] with frame := 0x48000001AA87 })
    (fun t => t.trace == [.csAssert] && t.ctl == .frame 0 && t.phase == .iIfCond) = true := by decide

/-- V-EX-4: after `CS+` the time is read. -/
theorem test_step_cmd55 : nextIs (step { initAt .iIfCond .command [] with frame := 0x7700000000FF })
    (fun t => t.trace == [.csAssert] && t.ctl == .readyTime && t.phase == .iAppCmd) = true := by decide

theorem test_step_acmd41 : nextIs (step { initAt .iAppCmd .command [] with frame := 0x6940000000FF })
    (fun t => t.cs && t.ctl == .readyTime && t.phase == .iOpCond && t.cmd == .acmd41) = true := by decide

/-- V-EX-3. -/
theorem test_step_cmd58 : nextIs (step { initAt .iOpCond .command [] with frame := 0x7A00000000FF })
    (fun t => t.cs && t.ctl == .readyTime && t.phase == .iOcr && t.cmd == .cmd58) = true := by decide

theorem test_step_cmd9 : nextIs (step { initAt .iOcr .command [] with frame := 0x4900000000FF })
    (fun t => t.cs && t.ctl == .readyTime && t.phase == .iCsd && t.cmd == .cmd9) = true := by decide

theorem test_step_cmd16 : nextIs (step { initAt .iCsd .command [] with frame := 0x5000000200FF })
    (fun t => t.cs && t.ctl == .readyTime && t.phase == .iSetBlk && t.cmd == .cmd16) = true := by decide

/-- V-EX-7. -/
theorem test_step_cmd17 :
    nextIs (step { busyAt .read .cmd17 .commandSent .command [] with frame := 0x5100000005FF })
      (fun t => t.trace == [.csAssert] && t.ctl == .readyTime && t.phase == .commandSent) = true := by decide

/-- V-WRT-5: as READ, with command 24. -/
theorem test_step_cmd24 :
    nextIs (step { busyAt .write .cmd24 .commandSent .command [] with frame := 0x5800000003FF })
      (fun t => t.trace == [.csAssert] && t.ctl == .readyTime && t.cmd == .cmd24) = true := by decide

/-- The frame of command 55 in the table of R86. -/
theorem test_step_encode : nextIs (step (initAt .iIfCond (.encode 55 0) []))
    (fun t => t.frame == 0x7700000000FF && t.ctl == .command && t.trace == []) = true := by decide

/-- V-ENC-16, its frame at a command phase: R130 has no test of FRAME, so chip-select is asserted all the same. -/
theorem test_step_other_frame : nextIs (step { initAt .iIfCond .command [] with frame := 0x7FFFFFFFFFFF, cmd := .cmd55 })
    (fun t => t.trace == [.csAssert] && t.ctl == .readyTime && t.frame == 0x7FFFFFFFFFFF) = true := by decide

/-- V-ENC-3: with the default checksum the check byte follows the argument. -/
theorem test_encode_default : encodeFrameWith crc7Default 0 1 = 0x400000000187 := by decide

/-- V-W1-6: 0x7F is a valid R1. -/
theorem test_step_r1 : nextIs (step (inside .read .cmd17 .commandSent .waitR1 [0x7F]))
    (fun t => t.r1 == 0x7F && t.lastR1 == 0x7F && t.cnt == 1 && t.ctl == .afterR1) = true := by decide

/-- V-W1-4: 0xC1 is none and the wait goes on. -/
theorem test_step_not_r1 : nextIs (step (inside .read .cmd17 .commandSent .waitR1 [0xC1]))
    (fun t => t.r1 == 0xC1 && t.cnt == 1 && t.ctl == .waitR1) = true := by decide

/-- V-WT-2. -/
theorem test_step_dataStart : nextIs (step (inside .read .cmd17 .tokenWait .waitToken [0xFE]))
    (fun t => t.ctl == .burst && t.phase == .transfer && t.trace == [.xchg 0xFF 0xFE, .csAssert]) = true := by decide

/-- R173: WRITE sends the token itself, its answer discarded. -/
theorem test_step_dataStart_sent : nextIs (step (inside .write .cmd24 .tokenSent .token [0x12]))
    (fun t => t.ctl == .payloadOut 0 && t.phase == .transfer && t.trace == [.xchg 0xFE 0x12, .csAssert]) = true := by decide

/-- V-WRT-4: `25` passes. -/
theorem test_step_dataResponse : nextIs (step (inside .write .cmd24 .responseCheck .response [0x25]))
    (fun t => t.ctl == .waitProg && t.phase == .programWait && t.cnt == 0) = true := by decide

/-- V-WRT-1: `EB` is `WriteRejected` after RELEASE. -/
theorem test_step_dataResponse_rejected : nextIs (step (inside .write .cmd24 .responseCheck .response [0xEB]))
    (fun t => t.ctl == .release (some .writeRejected) && t.phase == .responseCheck && t.lastRx == 0xEB) = true := by decide

/-- V-WR-1: `FF` means ready. -/
theorem test_step_idle_ready : nextIs (step (inside .read .cmd17 .commandSent .readyPoll [0xFF]))
    (fun t => t.ctl == .frame 0 && t.trace == [.xchg 0xFF 0xFF, .csAssert]) = true := by decide

/-- V-WP-4: `FF` ends the programming wait. -/
theorem test_step_idle_programmed : nextIs (step (inside .write .cmd24 .programWait .waitProg [0xFF]))
    (fun t => t.ctl == .release none && t.cnt == 1) = true := by decide

/-! ## A word of the table placed for the next step -/

theorem test_fetch_operation : nextIs (step (State.reset.withFetchWord 32 0x1))
    (fun t => t.busy && t.curOp == .init && t.phase == .iPrep) = true := by decide

theorem test_fetch_frame : nextIs (step (State.reset.withFetchWord 48 0x5100000005FF))
    (fun t => t.cs && t.cmd == .cmd17 && t.frame == 0x5100000005FF) = true := by decide

theorem test_fetch_encode : nextIs (step (State.reset.withFetchWord 48 0x4100000000FF))
    (fun t => t.frame == 0x4100000000FF && t.ctl == .command) = true := by decide

theorem test_fetch_byte : nextIs (step (State.reset.withFetchWord 8 0x05)) (fun t => t.cnt == 0 && t.phase == .programWait) =
    true := by decide

/-! ## Witnesses: the hypotheses of each statement met together -/

theorem base_inv : Inv base :=
  ⟨rfl, rfl, rfl, rfl, by decide, rfl, rfl, rfl, rfl, fun _ => rfl, by decide, trivial⟩

theorem witness_DecodeOfEncodeIsIdentity :
    (Instr.wellFormed (.encode 8 0x1AA (checkByte 8 0x1AA)) = true ∧
      Slot.encoder ∈ Instr.slots (.encode 8 0x1AA (checkByte 8 0x1AA))) ∧
    (Instr.wellFormed .idle = true ∧ Slot.programming ∈ Instr.slots .idle) := by
  simp [Instr.wellFormed, Instr.slots]

theorem witness_DecodedWordIsTheEncoding :
    Slot.command ≠ .ctrl ∧ decode .command (.frame 0x5100000005FF) = .ok (.cmd17 5) ∧
    decode .command (.frame 0x400000000000) = .ok .cmd0 := by decide

theorem witness_OperationCodeIsTheLowTwoBits :
    (0xFFFFFFFC : U32).toNat % 4 = 0 ∧ (0xFFFFFFFD : U32).toNat % 4 = 1 ∧ (0xFFFFFFFE : U32).toNat % 4 = 2 ∧
    (0xFFFFFFFF : U32).toNat % 4 = 3 := by decide

theorem witness_EncodeWritesArgumentAndCheckByte :
    ((8 : BitVec 6) = 0 ∨ (8 : BitVec 6) = 8) ∧ ((63 : BitVec 6) ≠ 0 ∧ (63 : BitVec 6) ≠ 8) := by decide

theorem witness_NopChangesNothing :
    (doing (.regWrite 0 0xFFFFFFFC) base).inputs = .host (.regWrite 0 0xFFFFFFFC) :: [] ∧
    (0xFFFFFFFC : U32).toNat % 4 = 0 := by decide

theorem witness_StartIsIgnoredWhileBusy :
    (doing (.regWrite 0 3) (inside .read .cmd17 .tokenWait .waitToken [])).busy = true ∧
    (doing (.regWrite 0 3) (inside .read .cmd17 .tokenWait .waitToken [])).inputs = .host (.regWrite 0 3) :: [] := by decide

theorem witness_InitStartClearsTheDescriptor :
    ((card true).busy = false ∧ (card true).cd ≠ ⟨false, 0, 0, 0, 0⟩) ∧ (initAt .iPrep .initBaud []).ctl = .initBaud := by decide

theorem witness_RangeErrorTouchesNoBus :
    (Inv base ∧ base.busy = false ∧ base.inited = false) ∧
    ({ card false with blkaddr := 1024 } : State).busy = false ∧
    ¬ ({ card false with blkaddr := 1024 } : State).blkaddr < ({ card false with blkaddr := 1024 } : State).cd.blockcount :=
  ⟨⟨base_inv, rfl, rfl⟩, by decide⟩

theorem witness_TransferArgumentFollowsAddressingMode :
    ∀ hc : Bool, ({ card hc with blkaddr := 1023 } : State).busy = false ∧
      ({ card hc with blkaddr := 1023 } : State).blkaddr < ({ card hc with blkaddr := 1023 } : State).cd.blockcount ∧
      ({ card hc with blkaddr := 1023 } : State).cd.isHc = hc := by decide

theorem witness_TransferAssertsChipSelectWithItsFrame :
    (busyAt .read .cmd17 .commandSent (.encode opcReadSingle 5) []).ctl = .encode opcReadSingle 5 ∧
    (busyAt .write .cmd24 .commandSent (.encode opcWriteSingle 0xFFFFFFFF) []).ctl = .encode opcWriteSingle 0xFFFFFFFF := by
  decide

theorem witness_RegisterWriteReadsBack :
    ∀ i ∈ [3, 5, 10, 11, 12, 13, 14, 15, 19],
      (doing (.regWrite i 0x1FF) base).busy = false ∧
      (doing (.regWrite i 0x1FF) base).inputs = .host (.regWrite i 0x1FF) :: [] := by decide

theorem witness_OtherRegisterWritesAreIgnored :
    (doing (.regWrite 25 7) base).inputs = .host (.regWrite 25 7) :: [] ∧
    25 ∉ [3, 5, 10, 11, 12, 13, 14, 15, 19] ∧
    (doing (.regWrite 3 7) (inside .read .cmd17 .tokenWait .waitToken [])).inputs = .host (.regWrite 3 7) :: [] ∧
    (doing (.regWrite 3 7) (inside .read .cmd17 .tokenWait .waitToken [])).busy = true := by decide

theorem witness_StatusShowsEveryFlag : (doing (.regRead 1) base).inputs = .host (.regRead 1) :: [] := by decide

/-- A register, the last number that names one, and the first that names none. -/
theorem witness_ReadOnlyRegistersShowTheirFields :
    ∀ i ∈ [0, 16, 24, 25], (doing (.regRead i) base).inputs = .host (.regRead i) :: [] := by decide

theorem witness_PinsFollowTheDataInPin : base.datainPin = 4 := by decide

theorem witness_BufferWriteThenRead :
    ({ base with inputs := [.host (.bufWrite 511 3), .host (.bufRead 511)] } : State).busy = false ∧
    ({ base with inputs := [.host (.bufWrite 511 3), .host (.bufRead 511)] } : State).inputs =
      .host (.bufWrite 511 3) :: .host (.bufRead 511) :: [] ∧
    (doing (.bufWrite 0 3) (inside .read .cmd17 .tokenWait .waitToken [])).busy = true ∧
    (doing (.bufWrite 0 3) (inside .read .cmd17 .tokenWait .waitToken [])).inputs = .host (.bufWrite 0 3) :: [] := by decide

theorem witness_FrameAndFlushAreSentInOrder : (inside .read .cmd17 .commandSent (.frame 0) [1, 2]).ctl = .frame 0 := by decide

theorem witness_R1ByteEndsItsWait :
    (inside .read .cmd17 .commandSent .waitR1 []).ctl = .waitR1 ∧ base.ctl ≠ .waitR1 := by decide

theorem witness_DataStartTokenActs :
    ((inside .init .cmd9 .iCsd .waitToken []).ctl = .waitToken ∧ (inside .init .cmd9 .iCsd .waitToken []).cmd = .cmd9) ∧
    ((inside .read .cmd17 .tokenWait .waitToken []).ctl = .waitToken ∧
      (inside .read .cmd17 .tokenWait .waitToken []).cmd ≠ .cmd9) ∧
    (inside .write .cmd24 .tokenSent .token []).ctl = .token ∧ (base.ctl ≠ .waitToken ∧ base.ctl ≠ .token) := by decide

theorem witness_AcceptedResponseStartsTheProgrammingWait :
    (inside .write .cmd24 .responseCheck .response []).ctl = .response ∧ base.ctl ≠ .response := by decide

theorem witness_IdleByteEndsItsWaits :
    (inside .read .cmd17 .commandSent .readyPoll []).ctl = .readyPoll ∧
    (inside .write .cmd24 .programWait .waitProg []).ctl = .waitProg ∧
    (base.ctl ≠ .readyPoll ∧ base.ctl ≠ .waitProg) := by decide

/-- V-W1-1, for the exhausted bound V-W1-4, for a bound of 0 V-W1-5. -/
theorem witness_WaitR1ReturnsFirstValidOrLastByte :
    (∃ s : State, s.ctl = .waitR1 ∧ s.cnt = 0 ∧ (∀ x ∈ [0xFF, 0xFF], (x : Byte).msb = true) ∧
      s.rxQueue = [0xFF, 0xFF] ++ 0x01 :: [] ∧ (0x01 : Byte).msb = false ∧ [0xFF, 0xFF].length < s.nR1.toNat) ∧
    (∃ s : State, s.ctl = .waitR1 ∧ s.cnt = 0 ∧ (∀ x ∈ [0xFF, 0xC1], (x : Byte).msb = true) ∧
      s.rxQueue = [0xFF, 0xC1] ++ 0x80 :: [] ∧ (0x80 : Byte).msb = true ∧ [0xFF, 0xC1].length + 1 = s.nR1.toNat) ∧
    (∃ s : State, s.ctl = .waitR1 ∧ s.cnt = 0 ∧ s.nR1 = 0 ∧ s.r1 = 0xFF) :=
  ⟨⟨inside .read .cmd17 .commandSent .waitR1 [0xFF, 0xFF, 0x01], by decide⟩,
    ⟨{ inside .read .cmd17 .commandSent .waitR1 [0xFF, 0xC1, 0x80] with nR1 := 3 }, by decide⟩,
    ⟨{ inside .read .cmd17 .commandSent .waitR1 [] with nR1 := 0, r1 := 0xFF }, by decide⟩⟩

/-- V-WT-5, with the token at the last exchange of the bound, and V-WT-3. -/
theorem witness_WaitTokenFindsTokenOrTimesOut :
    (∃ s : State, s.ctl = .waitToken ∧ s.cnt = 0 ∧ s.cs = true ∧ (∀ x ∈ [0x00, 0xFC], (x : Byte) ≠ 0xFE) ∧
      s.rxQueue = [0x00, 0xFC] ++ 0xFE :: [] ∧ [0x00, 0xFC].length + 1 = s.nToken.toNat) ∧
    (∃ s : State, s.ctl = .waitToken ∧ s.cnt = 0 ∧ s.cs = true ∧ (∀ x ∈ [0xFF, 0x0B, 0xFF], (x : Byte) ≠ 0xFE) ∧
      s.rxQueue = [0xFF, 0x0B, 0xFF] ++ [] ∧ [0xFF, 0x0B, 0xFF].length = s.nToken.toNat) :=
  ⟨⟨{ inside .read .cmd17 .tokenWait .waitToken [0x00, 0xFC, 0xFE] with nToken := 3 }, by decide⟩,
    ⟨{ inside .read .cmd17 .tokenWait .waitToken [0xFF, 0x0B, 0xFF] with nToken := 3 }, by decide⟩⟩

/-- V-WP-1, with the idle byte at the last exchange of the bound, and V-WP-2. -/
theorem witness_ProgrammingWaitEndsOrTimesOut :
    (∃ s : State, s.ctl = .waitProg ∧ s.cnt = 0 ∧ s.cs = true ∧ s.cmd = .cmd24 ∧ (∀ x ∈ [0x00, 0x00], (x : Byte) ≠ 0xFF) ∧
      s.rxQueue = [0x00, 0x00] ++ 0xFF :: 0x5A :: [] ∧ [0x00, 0x00].length + 1 = s.nProg.toNat) ∧
    (∃ s : State, s.ctl = .waitProg ∧ s.cnt = 0 ∧ s.cs = true ∧ s.cmd = .cmd24 ∧ (∀ x ∈ [0x00, 0x00], (x : Byte) ≠ 0xFF) ∧
      s.rxQueue = [0x00, 0x00] ++ 0x5A :: [] ∧ [0x00, 0x00].length = s.nProg.toNat) :=
  ⟨⟨{ inside .write .cmd24 .programWait .waitProg [0x00, 0x00, 0xFF, 0x5A] with nProg := 3 }, by decide⟩,
    ⟨{ inside .write .cmd24 .programWait .waitProg [0x00, 0x00, 0x5A] with nProg := 2 }, by decide⟩⟩

/-- V-WR-3. -/
theorem witness_ReadyWaitEndsOnAnIdleByte :
    ∃ s : State, s.ctl = .readyTime ∧ s.timeQueue = 100 :: ([100, 599] ++ []) ∧ s.rxQueue = [0x00, 0x7F] ++ 0xFF :: [] ∧
      ([100, 599] : List U32).length = [0x00, 0x7F].length ∧ (∀ x ∈ [0x00, 0x7F], (x : Byte) ≠ 0xFF) ∧
      (∀ r ∈ ([100, 599] : List U32), r - 100 < s.tReadyMs) :=
  ⟨{ inside .read .cmd17 .commandSent .readyTime [0x00, 0x7F, 0xFF] with timeQueue := [100, 100, 599] },
    rfl, rfl, rfl, rfl, by decide, List.forall_mem_cons.2 ⟨by decide, List.forall_mem_cons.2 ⟨by decide, by simp⟩⟩⟩

/-- V-WR-7, its last poll: 1500 - 1000 is the bound. -/
theorem witness_ReadyWaitExpiryIsBusyTimeout :
    ∃ s : State, s.ctl = .readyPoll ∧ s.cs = true ∧ s.rxQueue = 0x01 :: 0xFF :: [] ∧ (0x01 : Byte) ≠ 0xFF ∧
      s.timeQueue = 1500 :: [] ∧ s.tReadyMs ≤ 1500 - s.t0 :=
  ⟨{ inside .read .cmd17 .commandSent .readyPoll [0x01, 0xFF] with timeQueue := [1500], t0 := 1000 }, by decide⟩

/-- V-EX-4: a failed ready wait returns 0xFF for `r1`. -/
theorem test_step_notReady :
    nextIs (step { inside .init .cmd55 .iAppCmd .readyTest [] with timeQueue := [601], t0 := 100, r1 := 1 })
      (fun t => t.r1 == 0xFF && t.ctl == .release (some .busyTimeout)) = true := by decide

/-- R191, U8: after `WriteRejected` `DIAG.LAST_RX` keeps the data-response byte; after `BusyTimeout` it is the flush byte (P8), and after
`TokenTimeout` (R33). -/
theorem test_step_flush_lastRx :
    nextIs (step { busyAt .write .cmd24 .responseCheck (.flush (some .writeRejected)) [0xFF] with lastRx := 0xEB })
      (fun t => t.lastRx == 0xEB && t.errcode == some .writeRejected) = true ∧
    nextIs (step { busyAt .read .cmd17 .commandSent (.flush (some .busyTimeout)) [0xFF] with lastRx := 0x00 })
      (fun t => t.lastRx == 0xFF && t.errcode == some .busyTimeout) = true ∧
    nextIs (step { busyAt .read .cmd17 .tokenWait (.flush (some .tokenTimeout)) [0xFF] with lastRx := 0x0B })
      (fun t => t.lastRx == 0xFF && t.errcode == some .tokenTimeout) = true := by decide

theorem witness_CountedWaitsTerminate :
    (inside .read .cmd17 .commandSent .waitR1 []).ctl = .waitR1 ∧
    (inside .read .cmd17 .tokenWait .waitToken []).ctl = .waitToken ∧
    (inside .write .cmd24 .programWait .waitProg []).ctl = .waitProg := by decide

theorem witness_FailureExitReleasesThenCompletes :
    (inside .read .cmd17 .tokenWait .waitToken []).cs = true ∧ base.cs = false := by decide

/-- V-EX-3; an EXECUTE with no reply; a RELEASE. -/
theorem witness_ReplyIsKeptInOrder :
    (∃ s : State, s.ctl = .afterR1 ∧ (s.cmd = .cmd8 ∨ s.cmd = .cmd58) ∧ s.rxQueue = 0xC0 :: 0xFF :: 0x80 :: 0x00 :: []) ∧
    (∀ c ∈ [Command.cmd0, .cmd55, .acmd41, .cmd16], (inside .init c c.phase .afterR1 []).ctl = .afterR1 ∧
      (inside .init c c.phase .afterR1 []).cmd ∈ [Command.cmd0, .cmd55, .acmd41, .cmd16]) ∧
    (∃ s : State, s.ctl = .release none ∧ s.rxQueue = 0xFF :: []) :=
  ⟨⟨inside .init .cmd58 .iOcr .afterR1 [0xC0, 0xFF, 0x80, 0x00], by decide⟩, by decide,
    ⟨inside .init .cmd0 .iReset (.release none) [0xFF], by decide⟩⟩

theorem witness_SyncSendsExactlyNSyncIdleBytes :
    (∃ s : State, s.ctl = .sync 0 ∧ s.rxQueue = [1, 2, 3] ++ [] ∧ ([1, 2, 3] : List Byte).length = s.nSync.toNat) ∧
    (∃ s : State, s.ctl = .sync 0 ∧ s.rxQueue = [] ++ [] ∧ ([] : List Byte).length = s.nSync.toNat) :=
  ⟨⟨{ initAt .iSync (.sync 0) [1, 2, 3] with nSync := 3 }, by decide⟩, ⟨{ initAt .iSync (.sync 0) [] with nSync := 0 }, by decide⟩⟩

theorem witness_InitStepsTestR1 :
    ∀ c ∈ [Command.cmd0, .cmd8, .cmd55, .acmd41, .cmd58, .cmd16],
      (busyAt .init c c.phase (.flush none) []).ctl = .flush none ∧ (busyAt .init c c.phase (.flush none) []).cs = false ∧
      (busyAt .init c c.phase (.flush none) []).cmd = c := by decide

/-- At the bound, and one below it. -/
theorem witness_OperatingConditionLoopHasATimeBudget :
    (∃ s : State, s.timeQueue = 7 :: [] ∧ s.cs = false ∧ s.ctl = .initTime) ∧
    (∃ s : State, s.timeQueue = 1099 :: [] ∧ s.cs = false ∧ s.ctl = .budget ∧ 1099 - s.t0Init < s.tInitMs) ∧
    (∃ s : State, s.timeQueue = 1100 :: [] ∧ s.cs = false ∧ s.ctl = .budget ∧ s.tInitMs ≤ 1100 - s.t0Init) :=
  ⟨⟨{ initAt .iIfCond .initTime [] with timeQueue := [7] }, by decide⟩,
    ⟨{ initAt .iOpCond .budget [] with timeQueue := [1099], t0Init := 100 }, by decide⟩,
    ⟨{ initAt .iOpCond .budget [] with timeQueue := [1100], t0Init := 100 }, by decide⟩⟩

/-- V-CSD-2 and V-CSD-6. -/
theorem witness_CsdParseGivesTheCapacity :
    (csdByte 0x40000000000000003B37000000000000 0).toNat / 64 = 1 ∧
    (csdByte 0x000000000000003FFFFF000000000000 0).toNat / 64 ≠ 1 := by decide

theorem witness_CsdIsReadWithoutItsCheck :
    ∃ s : State, s.ctl = .csd 0 ∧ s.cmd = .cmd9 ∧ (List.replicate 16 (0x40 : Byte)).length = 16 ∧
      s.rxQueue = List.replicate 16 0x40 ++ 1 :: 2 :: 3 :: [] :=
  ⟨inside .init .cmd9 .iCsd (.csd 0) (List.replicate 16 0x40 ++ [1, 2, 3]), by decide⟩

theorem witness_InitCommitsTheDescriptor : (initAt .iCsd .raiseBaud []).ctl = .raiseBaud := by decide

theorem witness_BlockIsCheckedForCountThenValue :
    (inside .read .cmd17 .crcCheck .crcCheck [0]).ctl = .crcCheck ∧ (inside .read .cmd17 .crcCheck .crcCheck [0]).cmd = .cmd17 ∧
    (inside .read .cmd17 .crcCheck .crcCheck [0]).cs = true := by decide

/-- A full block and a short one. -/
theorem witness_ReadReceivesAndChecksTheBlock :
    (inside .read .cmd17 .transfer .burst []).ctl = .burst ∧
    (∃ s : State, s.ctl = .payloadIn 0 ∧ s.cmd = .cmd17 ∧ s.cs = true ∧ s.burstCount ≤ 512 ∧
      (List.replicate 512 (0xFF : Byte)).length = s.burstCount.toNat ∧
      s.rxQueue = List.replicate 512 0xFF ++ 0x7F :: 0xA1 :: 0x00 :: []) ∧
    (∃ s : State, s.ctl = .payloadIn 0 ∧ s.cmd = .cmd17 ∧ s.cs = true ∧ s.burstCount ≤ 512 ∧
      ([] : List Byte).length = s.burstCount.toNat ∧ s.rxQueue = [] ++ 0xAA :: 0xBB :: 0x00 :: []) :=
  ⟨rfl,
    ⟨{ inside .read .cmd17 .transfer (.payloadIn 0) (List.replicate 512 0xFF ++ [0x7F, 0xA1, 0x00]) with burstCount := 512 },
      rfl, rfl, rfl, by decide, by rw [List.length_replicate]; rfl, rfl⟩,
    ⟨inside .read .cmd17 .transfer (.payloadIn 0) [0xAA, 0xBB, 0x00], by decide⟩⟩

theorem witness_WriteSendsTheDataPacket :
    ∃ s : State, s.ctl = .afterR1 ∧ s.cmd = .cmd24 ∧ s.r1 = 0 ∧ s.rxQueue = List.replicate 515 0x12 ++ [] ∧
      (List.replicate 515 (0x12 : Byte)).length = 515 :=
  ⟨inside .write .cmd24 .commandSent .afterR1 (List.replicate 515 0x12 ++ []), rfl, rfl, rfl, rfl, List.length_replicate⟩

/-- V-WRT-4: `E5` and `FF`. -/
theorem witness_DataResponseDecidesTheWrite :
    (∃ s : State, s.ctl = .response ∧ s.cs = true ∧ s.rxQueue = 0xE5 :: [] ∧ (0xE5 : Byte).toNat % 32 = 5) ∧
    (∃ s : State, s.ctl = .response ∧ s.cs = true ∧ s.rxQueue = 0xFF :: [] ∧ (0xFF : Byte).toNat % 32 ≠ 5) :=
  ⟨⟨inside .write .cmd24 .responseCheck .response [0xE5], by decide⟩,
    ⟨inside .write .cmd24 .responseCheck .response [0xFF], by decide⟩⟩

theorem witness_TransfersRejectNonzeroR1 :
    ∀ c ∈ [Command.cmd17, .cmd24, .cmd9], ∀ r ∈ [(0 : Byte), 4],
      ({ inside c.op c c.phase .afterR1 [] with r1 := r } : State).ctl = .afterR1 ∧
      ({ inside c.op c c.phase .afterR1 [] with r1 := r } : State).cs = true ∧
      ({ inside c.op c c.phase .afterR1 [] with r1 := r } : State).cmd = c ∧
      ({ inside c.op c c.phase .afterR1 [] with r1 := r } : State).r1 = r := by decide

/-! ### Witnesses of the statements about every step -/

/-- INIT about to commit. -/
def committing : State := { initAt .iBaud .commit [] with trace := [.setBaud 5000000] }

theorem committing_inv : Inv committing :=
  ⟨rfl, rfl, rfl, rfl, by decide, rfl, rfl, rfl, rfl, fun _ => rfl, fun _ _ => rfl, trivial⟩

/-- READ after its release, its check value that of the buffer. -/
def reading : State :=
  { busyAt .read .cmd17 .crcCheck (.flush none) [0x00] with burstCount := 512, rcrc := Config.crc16 (bufBytes base) }

/-- What the buffer is does not depend on the rest of the state. -/
theorem reading_verified : verified reading := by
  show reading.cmd = .cmd17 → reading.burstCount = 512 ∧ reading.rcrc = Config.crc16 (bufBytes reading)
  have h : bufBytes reading = bufBytes base := bufBytes_congr rfl rfl
  have hc : reading.rcrc = Config.crc16 (bufBytes base) := by simp only [reading]
  exact fun _ => ⟨rfl, hc.trans (congrArg Config.crc16 h.symm)⟩

theorem reading_inv : Inv reading :=
  ⟨rfl, rfl, rfl, rfl, fun _ => ⟨rfl, rfl⟩, rfl, rfl, rfl, rfl, fun h => absurd h (by decide), fun _ h => absurd h (by decide),
    reading_verified⟩

/-- WRITE after its release, the card having rejected the packet. -/
def writing : State := busyAt .write .cmd24 .responseCheck (.flush (some .writeRejected)) [0x00]

theorem writing_inv : Inv writing :=
  ⟨rfl, rfl, rfl, rfl, by decide, rfl, rfl, rfl, rfl, fun h => absurd h (by decide), by decide, trivial⟩

theorem witness_EveryStepKeepsTheInvariant : Inv reading ∧ ∃ t, step reading = .next t := ⟨reading_inv, _, rfl⟩

/-- WRITE at its flush byte, of a transport that has stalled. -/
theorem witness_NoStepStopsButAHungTransport :
    step { writing with stalled := true } = .fault .transportHung ∧ ∃ t, step writing = .next t := ⟨rfl, _, rfl⟩

theorem witness_PhaseFollowsItsDiagram :
    Inv committing ∧ (∃ t, step committing = .next t ∧ t.phase = .done) ∧ committing.inputs.head? ≠ some .reset :=
  ⟨committing_inv, ⟨_, rfl, rfl⟩, by decide⟩

theorem witness_ChipSelectIsReleasedOnEveryPath :
    (∃ t, runSteps 2 (bootWith [.host (.regWrite 0 2), .host (.regRead 2)] [1] [2] [3]) = .next t ∧ t.busy = false) ∧
    (∃ t, runSteps 2 (bootWith [.host (.regWrite 0 1), .turn] [1] [2] [3]) = .next t ∧ t.busy = true) :=
  ⟨⟨_, rfl, rfl⟩, ⟨_, rfl, rfl⟩⟩

theorem witness_OperationsEndWithTheirOwnOutcomes :
    (Inv committing ∧ committing.busy = true ∧ committing.curOp = .init ∧ ∃ t, step committing = .next t ∧ t.busy = false) ∧
    (Inv reading ∧ reading.busy = true ∧ reading.curOp = .read ∧ ∃ t, step reading = .next t ∧ t.busy = false) ∧
    (Inv writing ∧ writing.busy = true ∧ writing.curOp = .write ∧
      ∃ t, step writing = .next t ∧ t.busy = false ∧ t.errcode = some .writeRejected) :=
  ⟨⟨committing_inv, rfl, rfl, _, rfl, rfl⟩, ⟨reading_inv, rfl, rfl, _, rfl, rfl⟩, ⟨writing_inv, rfl, rfl, _, rfl, rfl, rfl⟩⟩

theorem witness_ReadOkMeansAVerifiedBlock :
    Inv reading ∧ reading.inputs.head? ≠ some .reset ∧ reading.busy = true ∧ reading.curOp = .read ∧
    ∃ t, step reading = .next t ∧ t.busy = false ∧ t.errcode = none :=
  ⟨reading_inv, by decide, rfl, rfl, _, rfl, rfl, rfl⟩

/-- Each way the buffer may change, and none. -/
theorem witness_OnlyReadAndHostWriteTheBuffer :
    (∃ t, step base = .next t) ∧ (∃ t, step (doing (.bufWrite 3 4) base) = .next t) ∧
    (∃ t, step { base with inputs := [.reset] } = .next t) ∧
    (∃ t, step { inside .read .cmd17 .transfer (.payloadIn 511) [9] with burstCount := 512 } = .next t) :=
  ⟨⟨_, rfl⟩, ⟨_, rfl⟩, ⟨_, rfl⟩, ⟨_, rfl⟩⟩

theorem witness_OnlyInitWritesTheDescriptor :
    (∃ t, step (doing (.regWrite 0 1) (card true)) = .next t ∧ t.cd ≠ (card true).cd) ∧ (∃ t, step committing = .next t) :=
  ⟨⟨_, rfl, by decide⟩, ⟨_, rfl⟩⟩

theorem witness_ConfigurationHoldsDuringAnOperation :
    (∃ t, step (doing (.regWrite 5 7) reading) = .next t) ∧ (doing (.regWrite 5 7) reading).busy = true ∧
    (doing (.regWrite 5 7) reading).inputs.head? ≠ some .reset :=
  ⟨⟨_, rfl⟩, rfl, by decide⟩

theorem witness_OneBusEventAtMostPerStep :
    (∃ t, step reading = .next t) ∧ (step base = .next base ∧ base.ctl = .idle ∧ base.inputs = []) :=
  ⟨⟨_, rfl⟩, rfl, rfl, rfl⟩

theorem witness_NoBusEventBetweenOperations :
    Inv base ∧ base.busy = false ∧ ∃ t, step base = .next t := ⟨base_inv, rfl, _, rfl⟩

/-- A word at each place a step takes one. -/
theorem witness_StepRunsTheDecodedInstruction :
    decode .ctrl (.ctrl 2) = .ok .read ∧ (inside .read .cmd17 .commandSent .readyPoll [0xFF]).stalled = false ∧
    decode .command (.frame ({ initAt .iSync .command [] with frame := 0x400000000095 } : State).frame) = .ok .cmd0 ∧
    decode .command (.frame ({ initAt .iSync .command [] with frame := 0 } : State).frame) = .error .marker ∧
    (initAt .iReset (.encode 8 0x1AA) []).ctl = .encode 8 0x1AA ∧
    decode .ready (.byte (rxNext (inside .read .cmd17 .commandSent .readyPoll [0xFF]))) = .ok .idle ∧
    (decode .r1 (.byte (rxNext (inside .read .cmd17 .commandSent .waitR1 [0x7F]))) = .ok (.r1 0x7F) ∧
      (inside .read .cmd17 .commandSent .waitR1 [0x7F]).cnt < (inside .read .cmd17 .commandSent .waitR1 [0x7F]).nR1) ∧
    (decode .token (.byte (rxNext (inside .read .cmd17 .tokenWait .waitToken [0xFE]))) = .ok .dataStart ∧
      (inside .read .cmd17 .tokenWait .waitToken [0xFE]).cnt < (inside .read .cmd17 .tokenWait .waitToken [0xFE]).nToken) ∧
    decode .token (.byte 0xFE) = .ok .dataStart ∧
    decode .dataResponse (.byte (rxNext (inside .write .cmd24 .responseCheck .response [0x05]))) =
      .ok (.dataResponseAccepted 0) ∧
    (decode .programming (.byte (rxNext (inside .write .cmd24 .programWait .waitProg [0xFF]))) = .ok .idle ∧
      (inside .write .cmd24 .programWait .waitProg [0xFF]).cnt < (inside .write .cmd24 .programWait .waitProg [0xFF]).nProg) :=
  by decide

theorem witness_InputsTakeTheirTurn :
    (base.inputs = [] ∧ base.stalled = false) ∧ ({ base with inputs := [.turn] } : State).inputs = .turn :: [] ∧
    ({ base with inputs := [.hang] } : State).inputs = .hang :: [] ∧
    (({ writing with stalled := true } : State).inputs = [] ∧ exchangeDue { writing with stalled := true } = true) ∧
    (({ base with done := true, inputs := [.poll] } : State).inputs = .poll :: [] ∧
      ({ base with done := true, inputs := [.poll] } : State).done = true) ∧
    (({ base with inputs := [.poll] } : State).inputs = .poll :: [] ∧ ({ base with inputs := [.poll] } : State).done = false) ∧
    ({ base with inputs := [.reset] } : State).inputs = .reset :: [] := by decide

end Sys2Proof.Tests
end

section
/-! Encodings: what ENCODE leaves in FRAME (R83, R84). -/

namespace Sys2Proof

open Machine

/-- The first five bytes of any frame in the order of sending, joined, are its upper 40 bits (R81). -/
theorem frameByte_append_firstFive (f : Frame) :
    frameByte f 0 ++ frameByte f 1 ++ frameByte f 2 ++ frameByte f 3 ++ frameByte f 4 = f.extractLsb' 8 40 := by
  simp only [frameByte]
  iterate 4 rw [BitVec.extractLsb'_append_extractLsb'_eq_extractLsb' (by rfl)]
  rfl

/-- The upper 40 bits of a packed frame are marker, opcode and argument, whatever the check byte (R81). -/
theorem extractLsb'_packFrame_firstFive (o : BitVec 6) (a : U32) (c : Byte) :
    (packFrame o a c).extractLsb' 8 40 = firstFive o a :=
  BitVec.extractLsb'_append_eq_left

/-- ENCODE writes FRAME alone, whatever check byte the instruction carries (R110). -/
theorem exec_encode (o : BitVec 6) (a : U32) (c : Byte) (s : State) :
    exec (.encode o a c) s = .next { s with frame := packFrame o a (checkByte o a) } := rfl

/-- The check byte of an opcode that carries a checksum is `crc7byte` of the frame's first five bytes (R84). -/
theorem checkByte_of_crc {o : BitVec 6} (h : o = 0 ∨ o = 8) (a : U32) :
    checkByte o a = Config.crc7byte (firstFive o a) :=
  (checkByte_cases o a).elim And.right fun hfill => absurd h hfill.1

/-- The check byte of any other opcode is the fill byte (R84). -/
theorem checkByte_of_fill {o : BitVec 6} (h : ¬ (o = 0 ∨ o = 8)) (a : U32) : checkByte o a = 0xFF :=
  (checkByte_cases o a).elim (fun hcrc => absurd hcrc.1 h) And.right

/-- Settles O5: the frame is the packed one, its bytes are read off by `frameByte_packFrame`, and the check byte was computed
over the very bytes the frame begins with. -/
theorem encodeWritesArgumentAndCheckByte : Obligations.EncodeWritesArgumentAndCheckByte := by
  unfold Obligations.EncodeWritesArgumentAndCheckByte
  intro o a c s
  obtain ⟨-, h1, h2, h3, h4, h5⟩ := frameByte_packFrame o a (checkByte o a)
  refine ⟨packFrame o a (checkByte o a), exec_encode o a c s, h1, h2, h3, h4, ?crc, ?fill⟩
  case crc =>
    intro ho
    rw [h5, frameByte_append_firstFive, extractLsb'_packFrame_firstFive]
    exact checkByte_of_crc ho a
  case fill =>
    intro ho
    rw [h5]
    exact checkByte_of_fill (not_or.mpr ho) a

end Sys2Proof
end

section
/-! WAIT_TOKEN (R123): polls that another byte than the token answers, and the two ends of the wait. -/

namespace Sys2Proof.Machine

theorem rxNext_of_cons {s : State} {b : Byte} {rest : List Byte} (h : s.rxQueue = b :: rest) : rxNext s = b := by
  simp [rxNext, h]

/-! ## Finding the token -/

@[simp] theorem tokenFound_ctl (s : State) : (tokenFound s).ctl = if s.cmd = .cmd9 then .csd 0 else .burst := by
  simp only [tokenFound]; split <;> rfl

@[simp] theorem tokenFound_rxQueue (s : State) : (tokenFound s).rxQueue = s.rxQueue := by
  simp only [tokenFound]; split <;> rfl

@[simp] theorem tokenFound_trace (s : State) : (tokenFound s).trace = s.trace := by
  simp only [tokenFound]; split <;> rfl

@[simp] theorem tokenFound_cs (s : State) : (tokenFound s).cs = s.cs := by
  simp only [tokenFound]; split <;> rfl

/-! ## Polls of a counted wait -/

/-- The state of WAIT_TOKEN or WAIT_PROG after as many iterations as `answers` has bytes, the card having answered those,
with `rest` its answers still to come (R123, R124). -/
def afterPolls (answers rest : List Byte) (s : State) : State :=
  { s with
    lastRx := answers.getLastD s.lastRx
    rxQueue := rest
    draws := s.draws + answers.length
    cnt := s.cnt + BitVec.ofNat 32 answers.length
    trace := exchanges (answers.map fun _ => idleByte) answers ++ s.trace }

@[simp] theorem afterPolls_ctl (answers rest : List Byte) (s : State) : (afterPolls answers rest s).ctl = s.ctl := rfl
@[simp] theorem afterPolls_nToken (answers rest : List Byte) (s : State) :
    (afterPolls answers rest s).nToken = s.nToken := rfl

/-- The count of a wait that began from zero is the number of its iterations, as long as 32 bits hold it. -/
theorem afterPolls_cnt_toNat {answers rest : List Byte} {s : State} (h0 : s.cnt = 0) (hlen : answers.length < 2 ^ 32) :
    (afterPolls answers rest s).cnt.toNat = answers.length := by
  simpa [afterPolls, h0] using hlen

theorem afterPolls_nil {rest : List Byte} {s : State} (h : s.rxQueue = rest) : afterPolls [] rest s = s := by
  simp [afterPolls, exchanges_nil, ← h]

/-- The first answer is that of an iteration now. -/
theorem afterPolls_cons {b : Byte} {answers rest : List Byte} {s : State} (h : s.rxQueue = b :: (answers ++ rest)) :
    afterPolls (b :: answers) rest s = afterPolls answers rest (pollCounted s) := by
  have hcnt : s.cnt + BitVec.ofNat 32 (answers.length + 1) = s.cnt + 1 + BitVec.ofNat 32 answers.length := by
    rw [BitVec.ofNat_add]; ac_rfl
  have hdraws : s.draws + (answers.length + 1) = s.draws + 1 + answers.length := by omega
  have hlast : (b :: answers).getLastD s.lastRx = answers.getLastD b := List.getLastD_cons ..
  simp only [afterPolls, pollCounted, List.length_cons, List.map_cons, exchanges_cons, hcnt, hdraws, hlast]
  simp [rxNext_of_cons h]

/-! ## The wait -/

/-- Within the bound WAIT_TOKEN goes on for as long as the card answers other bytes than the token. -/
theorem controllerRun_waitToken_others {others rest : List Byte} {s : State} (hctl : s.ctl = .waitToken)
    (hrx : s.rxQueue = others ++ rest) (hothers : ∀ x ∈ others, x ≠ tokenStart)
    (hbound : s.cnt.toNat + others.length ≤ s.nToken.toNat) :
    controllerRun others.length s = .next (afterPolls others rest s) := by
  induction others generalizing s with
  | nil => exact congrArg Host.Outcome.next (afterPolls_nil hrx).symm
  | cons b bs ih =>
    obtain ⟨hb, hbs⟩ := List.forall_mem_cons.mp hothers
    rw [List.length_cons] at hbound
    have hlt : s.cnt < s.nToken := by rw [BitVec.lt_def]; omega
    have hpoll : controllerStep s = .next (pollCounted s) := by
      rw [controllerStep_waitToken hctl, if_pos hlt, rxNext_of_cons hrx, if_neg hb]
    have hcnt : (pollCounted s).cnt.toNat = s.cnt.toNat + 1 := by
      have := s.nToken.isLt
      simp only [pollCounted]
      bv_omega
    have hbound' : (pollCounted s).cnt.toNat + bs.length ≤ s.nToken.toNat := by rw [hcnt]; omega
    rw [List.length_cons, controllerRun_succ hpoll, afterPolls_cons hrx]
    exact ih hctl (by simp [pollCounted, hrx]) hbs hbound'

/-- The exchange that receives the token is the last of the wait. -/
theorem controllerRun_waitToken_found {others rest : List Byte} {s : State} (hctl : s.ctl = .waitToken) (h0 : s.cnt = 0)
    (hothers : ∀ x ∈ others, x ≠ tokenStart) (hrx : s.rxQueue = others ++ tokenStart :: rest)
    (hbound : others.length < s.nToken.toNat) :
    controllerRun (others.length + 1) s = .next (tokenFound (pollCounted (afterPolls others (tokenStart :: rest) s))) := by
  have hrun := controllerRun_waitToken_others hctl hrx hothers (by simp [h0]; omega)
  have hlt : (afterPolls others (tokenStart :: rest) s).cnt < s.nToken := by
    rwa [BitVec.lt_def, afterPolls_cnt_toNat h0 (hbound.trans s.nToken.isLt)]
  rw [controllerRun_add hrun, controllerRun_one, controllerStep_waitToken (by simpa using hctl), afterPolls_nToken,
    if_pos hlt, rxNext_of_cons rfl, if_pos rfl]

/-- With its bound exhausted the wait makes no further exchange and its caller fails. -/
theorem controllerRun_waitToken_exhausted {others rest : List Byte} {s : State} (hctl : s.ctl = .waitToken)
    (h0 : s.cnt = 0) (hothers : ∀ x ∈ others, x ≠ tokenStart) (hrx : s.rxQueue = others ++ rest)
    (hbound : others.length = s.nToken.toNat) :
    controllerRun (others.length + 1) s = .next (raise .tokenTimeout (afterPolls others rest s)) := by
  have hrun := controllerRun_waitToken_others hctl hrx hothers (by simp [h0]; omega)
  have hge : ¬ (afterPolls others rest s).cnt < s.nToken := by
    rw [BitVec.lt_def, afterPolls_cnt_toNat h0 (hbound ▸ s.nToken.isLt), hbound]
    exact Nat.lt_irrefl _
  rw [controllerRun_add hrun, controllerRun_one, controllerStep_waitToken (by simpa using hctl), afterPolls_nToken,
    if_neg hge]

end Sys2Proof.Machine

namespace Sys2Proof

open Machine

/-- Settles O27: the other bytes are polled one by one, and the step after them meets the token or the exhausted bound. -/
theorem waitTokenFindsTokenOrTimesOut : Obligations.WaitTokenFindsTokenOrTimesOut := by
  unfold Obligations.WaitTokenFindsTokenOrTimesOut
  intro s others rest hctl h0 hcs hothers
  refine ⟨fun hrx hbound => ?found, fun hrx hbound => ?exhausted⟩
  case found =>
    refine ⟨_, controllerRun_waitToken_found hctl h0 hothers hrx hbound, ?_, ?_, ?_, ?_⟩
    · rw [tokenFound_rxQueue]; rfl
    · rw [tokenFound_ctl]; rfl
    · rw [tokenFound_trace]; rfl
    · rw [tokenFound_cs]; exact hcs
  case exhausted =>
    refine ⟨_, (controllerRun_waitToken_exhausted hctl h0 hothers hrx hbound).trans (congrArg _ (raise_of_cs hcs)),
      rfl, rfl, rfl⟩

end Sys2Proof
end

section
/-! The range check at START of READ and WRITE (R161, R171). -/

namespace Sys2Proof.Machine

/-- START of READ or WRITE out of range: the controller is at rest again with `RangeError`, no bus event made. -/
theorem beginTransfer_latchStart_of_outOfRange {op : HostOp} {c : Command} {o : BitVec 6} {s : State}
    (hbusy : s.busy = false) (h : ¬ s.blkaddr < s.cd.blockcount) :
    beginTransfer c o (latchStart op s) = { s with
      curOp := op, curBlk := s.blkaddr, errcode := some .rangeError, err := true, done := true,
      phase := .failed, failPhase := s.phase, ctl := .idle } := by
  rw [beginTransfer_of_outOfRange (s := latchStart op s) h]
  simp [complete, latchStart, hbusy]

theorem exec_read_of_idle {s : State} (h : s.busy = false) :
    exec .read s = .next (beginTransfer .cmd17 opcReadSingle (latchStart .read s)) :=
  congrArg Host.Outcome.next (start_of_idle h)

theorem exec_write_of_idle {s : State} (h : s.busy = false) :
    exec .write s = .next (beginTransfer .cmd24 opcWriteSingle (latchStart .write s)) :=
  congrArg Host.Outcome.next (start_of_idle h)

/-- Without a completed INIT the descriptor's capacity is zero, which no block number is below (R63). -/
theorem Inv.blkaddr_outOfRange {s : State} (hinv : Inv s) (hinited : s.inited = false) :
    ¬ s.blkaddr < s.cd.blockcount := by
  rw [hinv.cdZero hinited]
  exact BitVec.not_lt_zero

end Sys2Proof.Machine

namespace Sys2Proof

open Machine

/-- Settles O10: START of READ and of WRITE is one range check, and before INIT the capacity is zero. -/
theorem rangeErrorTouchesNoBus : Obligations.RangeErrorTouchesNoBus := by
  unfold Obligations.RangeErrorTouchesNoBus
  intro s hbusy
  refine ⟨fun hrange => ⟨?read, ?write⟩, Inv.blkaddr_outOfRange⟩
  case read => rw [exec_read_of_idle hbusy, beginTransfer_latchStart_of_outOfRange hbusy hrange]
  case write => rw [exec_write_of_idle hbusy, beginTransfer_latchStart_of_outOfRange hbusy hrange]

end Sys2Proof
end

section
/-! The integrity tests of READ and the RELEASE after them (R165, R131). -/

namespace Sys2Proof.Machine

/-! ## RELEASE at the end of an operation -/

/-- RELEASE is two steps: chip-select, then the flush byte and what follows it (R131). -/
theorem controllerRun_release {e : Option ErrorKind} {s : State} (h : s.ctl = .release e) :
    controllerRun 2 s = .next (flushRelease e (releaseCs e s)) := by
  rw [controllerRun_succ (controllerStep_release h), controllerRun_one, controllerStep_flush rfl]

/-- After the flush byte of READ the operation completes, with the error of its failure exit or with `OK`; `DIAG.LAST_RX` is
the flush byte, as READ has no error that keeps another. -/
theorem flushRelease_of_read {e : Option ErrorKind} {s : State} (hcmd : s.cmd = .cmd17)
    (he : ∀ k, e = some k → k.recordsRx = false) : flushRelease e s = complete e (exchange idleByte s) := by
  cases e with
  | none => simp [flushRelease, afterTransaction, hcmd]
  | some k => simp [flushRelease, flushFailure, he k rfl, exchange]

/-! ## The integrity tests -/

/-- What the two integrity tests of READ report, the count before the value (R165). -/
def blockError (s : State) : Option ErrorKind :=
  if s.burstCount ≠ 512 then some .inconsistent
  else if Config.crc16 (bufBytes s) ≠ s.wireCrc then some .crcMismatch
  else none

theorem blockError_recordsRx {s : State} {k : ErrorKind} (h : blockError s = some k) : k.recordsRx = false := by
  unfold blockError at h
  split at h
  · cases h; rfl
  · split at h
    · cases h; rfl
    · cases h

/-- Inside a transaction the tests go on to RELEASE whatever they find, and write nothing else. -/
theorem checkBlock_of_cs {s : State} (hcs : s.cs = true) :
    checkBlock s = { s with ctl := .release (blockError s) } := by
  obtain ⟨hcount, heq⟩ | ⟨hcount, hcrc, heq⟩ | ⟨hcount, hcrc, heq⟩ := checkBlock_cases s
  · rw [heq, raise_of_cs hcs, blockError, if_pos hcount]
  · rw [heq, raise_of_cs hcs, blockError, if_neg (not_not.mpr hcount), if_pos hcrc]
  · rw [heq, blockError, if_neg (not_not.mpr hcount), if_neg (not_not.mpr hcrc)]

/-- From the tests READ completes in three steps: the tests, chip-select, the flush byte. -/
theorem controllerRun_crcCheck {s : State} (hctl : s.ctl = .crcCheck) (hcmd : s.cmd = .cmd17) (hcs : s.cs = true) :
    controllerRun 3 s = .next (complete (blockError s) (exchange idleByte (releaseCs (blockError s) s))) := by
  have htests : controllerStep s = .next { s with ctl := .release (blockError s) } := by
    rw [controllerStep_crcCheck hctl, checkBlock_of_cs hcs]
  rw [controllerRun_succ htests, controllerRun_release rfl]
  exact congrArg Host.Outcome.next (flushRelease_of_read hcmd fun _ => blockError_recordsRx)

end Sys2Proof.Machine

namespace Sys2Proof

open Machine

/-- Settles O40: the tests give `blockError`, and RELEASE, its flush byte and COMPLETION follow whatever it is. -/
theorem blockIsCheckedForCountThenValue : Obligations.BlockIsCheckedForCountThenValue := by
  unfold Obligations.BlockIsCheckedForCountThenValue
  intro s hctl hcmd hcs
  exact controllerRun_crcCheck hctl hcmd hcs

end Sys2Proof
end

section
/-! The programming wait of WRITE (R124, R175): polls that a busy byte answers, the two ends of the wait, and RELEASE. -/

namespace Sys2Proof.Machine

/-! ## The wait -/

@[simp] theorem afterPolls_cs (answers rest : List Byte) (s : State) : (afterPolls answers rest s).cs = s.cs := rfl
@[simp] theorem afterPolls_nProg (answers rest : List Byte) (s : State) :
    (afterPolls answers rest s).nProg = s.nProg := rfl

@[simp] theorem afterPolls_phase (answers rest : List Byte) (s : State) :
    (afterPolls answers rest s).phase = s.phase := rfl
@[simp] theorem afterPolls_buf (answers rest : List Byte) (s : State) : (afterPolls answers rest s).buf = s.buf := rfl
@[simp] theorem pollCounted_buf (s : State) : (pollCounted s).buf = s.buf := rfl

/-- The last answer is that of an iteration after all the others. -/
theorem pollCounted_afterPolls (answers rest : List Byte) (b : Byte) (s : State) :
    pollCounted (afterPolls answers (b :: rest) s) = afterPolls (answers ++ [b]) rest s := by
  have hcnt : s.cnt + BitVec.ofNat 32 answers.length + 1 = s.cnt + BitVec.ofNat 32 (answers.length + 1) := by
    rw [BitVec.ofNat_add]; ac_rfl
  have htrace : exchanges ((answers ++ [b]).map fun _ => idleByte) (answers ++ [b]) =
      .xchg idleByte b :: exchanges (answers.map fun _ => idleByte) answers := by
    rw [List.map_append, exchanges_append (List.length_map _)]; rfl
  simp only [afterPolls, htrace, List.length_append, List.length_singleton, ← hcnt, List.getLastD_concat]
  rfl

/-- Below its bound WAIT_PROG makes one more iteration, which an idle byte makes its last. -/
theorem controllerStep_waitProg_afterPolls {answers rest : List Byte} {b : Byte} {s : State} (hctl : s.ctl = .waitProg)
    (h0 : s.cnt = 0) (hbound : answers.length < s.nProg.toNat) :
    controllerStep (afterPolls answers (b :: rest) s) =
      .next (if b = idleByte then { pollCounted (afterPolls answers (b :: rest) s) with ctl := .release none }
        else pollCounted (afterPolls answers (b :: rest) s)) := by
  have hlt : (afterPolls answers (b :: rest) s).cnt < s.nProg := by
    rwa [BitVec.lt_def, afterPolls_cnt_toNat h0 (hbound.trans s.nProg.isLt)]
  rw [controllerStep_waitProg (by simpa using hctl), afterPolls_nProg, if_pos hlt, rxNext_of_cons rfl]

/-- With its bound exhausted WAIT_PROG makes no further exchange and WRITE fails. -/
theorem controllerStep_waitProg_exhausted {answers rest : List Byte} {s : State} (hctl : s.ctl = .waitProg)
    (h0 : s.cnt = 0) (hbound : answers.length = s.nProg.toNat) :
    controllerStep (afterPolls answers rest s) = .next (raise .busyTimeout (afterPolls answers rest s)) := by
  have hge : ¬ (afterPolls answers rest s).cnt < s.nProg := by
    rw [BitVec.lt_def, afterPolls_cnt_toNat h0 (hbound ▸ s.nProg.isLt), hbound]
    exact Nat.lt_irrefl _
  rw [controllerStep_waitProg (by simpa using hctl), afterPolls_nProg, if_neg hge, progExhausted]

/-- Within the bound WAIT_PROG goes on for as long as the card is busy. -/
theorem controllerRun_waitProg_busy {busyBytes rest : List Byte} {s : State} (hctl : s.ctl = .waitProg) (h0 : s.cnt = 0)
    (hbusy : ∀ x ∈ busyBytes, x ≠ idleByte) (hrx : s.rxQueue = busyBytes ++ rest)
    (hbound : busyBytes.length ≤ s.nProg.toNat) :
    controllerRun busyBytes.length s = .next (afterPolls busyBytes rest s) := by
  induction busyBytes using List.reverseRecOn generalizing rest with
  | nil => exact congrArg Host.Outcome.next (afterPolls_nil hrx).symm
  | append_singleton bs b ih =>
    rw [List.length_append, List.length_singleton] at hbound ⊢
    have hbs : ∀ x ∈ bs, x ≠ idleByte := fun x hx => hbusy x (List.mem_append_left _ hx)
    have hb : b ≠ idleByte := hbusy b (by simp)
    have hrun := ih (rest := b :: rest) hbs (by simpa using hrx) (by omega)
    rw [controllerRun_add hrun, controllerRun_one, controllerStep_waitProg_afterPolls hctl h0 hbound, if_neg hb,
      pollCounted_afterPolls]

/-! ## RELEASE at the end of WRITE -/

/-- The state after RELEASE, its flush byte and COMPLETION (R131, R183). -/
def afterRelease (e : Option ErrorKind) (s : State) : State := complete e (exchange idleByte (releaseCs e s))

@[simp] theorem afterRelease_errcode (e : Option ErrorKind) (s : State) : (afterRelease e s).errcode = e := rfl
@[simp] theorem afterRelease_done (e : Option ErrorKind) (s : State) : (afterRelease e s).done = true := rfl
@[simp] theorem afterRelease_busy (e : Option ErrorKind) (s : State) : (afterRelease e s).busy = false := rfl
@[simp] theorem afterRelease_cs (e : Option ErrorKind) (s : State) : (afterRelease e s).cs = false := rfl
@[simp] theorem afterRelease_phase (e : Option ErrorKind) (s : State) :
    (afterRelease e s).phase = if e.isSome then .failed else .done := rfl
@[simp] theorem afterRelease_failPhase (e : Option ErrorKind) (s : State) :
    (afterRelease e s).failPhase = if e.isSome then s.phase else s.failPhase := rfl
@[simp] theorem afterRelease_buf (e : Option ErrorKind) (s : State) : (afterRelease e s).buf = s.buf := rfl

theorem afterRelease_rxQueue (e : Option ErrorKind) {s : State} {flush : Byte} {rest : List Byte}
    (h : s.rxQueue = flush :: rest) : (afterRelease e s).rxQueue = rest := by
  simp [afterRelease, releaseCs, h]

theorem afterRelease_trace (e : Option ErrorKind) {s : State} {flush : Byte} {rest : List Byte}
    (h : s.rxQueue = flush :: rest) : (afterRelease e s).trace = .xchg idleByte flush :: .csDeassert :: s.trace := by
  rw [afterRelease, complete_trace, exchange_trace, rxNext_of_cons (s := releaseCs e s) h]
  rfl

/-- WRITE completes after the flush byte of a transaction that did not fail. -/
theorem flushRelease_none_of_write {s : State} (h : s.cmd = .cmd24) :
    flushRelease none (releaseCs none s) = afterRelease none s := by
  have hcmd : (exchange idleByte (releaseCs none s)).cmd = .cmd24 := h
  simp only [flushRelease, afterTransaction, hcmd, afterRelease]

/-- `BusyTimeout` lets the flush byte stand in `DIAG.LAST_RX`, so it completes as every operation does. -/
theorem flushRelease_busyTimeout (s : State) :
    flushRelease (some .busyTimeout) (releaseCs (some .busyTimeout) s) = afterRelease (some .busyTimeout) s := rfl

/-- A step that goes to RELEASE has two more after it. -/
theorem controllerRun_toRelease {e : Option ErrorKind} {s t : State}
    (h : controllerStep s = .next { t with ctl := .release e }) :
    controllerRun 3 s = .next (flushRelease e (releaseCs e t)) := by
  rw [controllerRun_succ h, controllerRun_release rfl]
  rfl

/-- The idle byte that ends the wait is followed by RELEASE and completion with `OK`. -/
theorem controllerRun_waitProg_ends {busyBytes rest : List Byte} {s : State} (hctl : s.ctl = .waitProg) (h0 : s.cnt = 0)
    (hcmd : s.cmd = .cmd24) (hbusy : ∀ x ∈ busyBytes, x ≠ idleByte) (hrx : s.rxQueue = busyBytes ++ idleByte :: rest)
    (hbound : busyBytes.length < s.nProg.toNat) :
    controllerRun (busyBytes.length + 3) s =
      .next (afterRelease none (pollCounted (afterPolls busyBytes (idleByte :: rest) s))) := by
  have hrun := controllerRun_waitProg_busy hctl h0 hbusy hrx hbound.le
  have hidle := controllerStep_waitProg_afterPolls (b := idleByte) (rest := rest) hctl h0 hbound
  rw [if_pos rfl] at hidle
  have hwrite : (pollCounted (afterPolls busyBytes (idleByte :: rest) s)).cmd = .cmd24 := hcmd
  rw [controllerRun_add hrun, controllerRun_toRelease hidle, flushRelease_none_of_write hwrite]

/-- The exhausted bound is followed by RELEASE and completion with `BusyTimeout`. -/
theorem controllerRun_waitProg_timesOut {busyBytes rest : List Byte} {s : State} (hctl : s.ctl = .waitProg)
    (h0 : s.cnt = 0) (hcs : s.cs = true) (hbusy : ∀ x ∈ busyBytes, x ≠ idleByte) (hrx : s.rxQueue = busyBytes ++ rest)
    (hbound : busyBytes.length = s.nProg.toNat) :
    controllerRun (busyBytes.length + 3) s = .next (afterRelease (some .busyTimeout) (afterPolls busyBytes rest s)) := by
  have hrun := controllerRun_waitProg_busy hctl h0 hbusy hrx hbound.le
  have hexhausted := controllerStep_waitProg_exhausted (rest := rest) hctl h0 hbound
  rw [raise_of_cs (by simpa using hcs)] at hexhausted
  rw [controllerRun_add hrun, controllerRun_toRelease hexhausted, flushRelease_busyTimeout]

end Sys2Proof.Machine

namespace Sys2Proof

open Machine

/-- Settles O28: the busy bytes are polled one by one, the step after them meets the idle byte or the exhausted bound, and
RELEASE with its flush byte and COMPLETION follow either. -/
theorem programmingWaitEndsOrTimesOut : Obligations.ProgrammingWaitEndsOrTimesOut := by
  unfold Obligations.ProgrammingWaitEndsOrTimesOut
  intro s busyBytes rest flush hctl h0 hcs hcmd hbusy
  refine ⟨fun hrx hbound => ?ends, fun hrx hbound => ?timesOut⟩
  case ends =>
    refine ⟨_, controllerRun_waitProg_ends hctl h0 hcmd hbusy hrx hbound, ?_, ?_, ?_, ?_, ?_, ?_,
      afterRelease_rxQueue _ rfl, afterRelease_trace _ rfl⟩ <;> simp
  case timesOut =>
    refine ⟨_, controllerRun_waitProg_timesOut hctl h0 hcs hbusy hrx hbound, ?_, ?_, ?_, ?_, ?_, ?_, ?_,
      afterRelease_rxQueue _ rfl, afterRelease_trace _ rfl⟩ <;> simp

end Sys2Proof
end

section
/-! The data packet of WRITE (R173): one byte per step from the token to the second check byte, with no test on the way. -/

namespace Sys2Proof.Machine

/-! ## Runs of exchanges -/

/-- The state after the bytes of `sent` were exchanged for those of `received`, with `rest` the card's answers still to
come. -/
def afterExchanges (sent received rest : List Byte) (s : State) : State :=
  { s with
    lastRx := received.getLastD s.lastRx
    rxQueue := rest
    draws := s.draws + received.length
    trace := exchanges sent received ++ s.trace }

theorem afterExchanges_nil {rest : List Byte} {s : State} (h : s.rxQueue = rest) : afterExchanges [] [] rest s = s := by
  simp [afterExchanges, exchanges_nil, ← h]

/-- The last exchange of a run comes after all the others. -/
theorem exchange_afterExchanges {sent received : List Byte} (h : sent.length = received.length) (tx b : Byte)
    (rest : List Byte) (s : State) :
    exchange tx (afterExchanges sent received (b :: rest) s) = afterExchanges (sent ++ [tx]) (received ++ [b]) rest s := by
  have htrace : exchanges (sent ++ [tx]) (received ++ [b]) = .xchg tx b :: exchanges sent received := exchanges_append h
  simp [exchange, afterExchanges, rxNext, htrace, Nat.add_assoc]

/-! ## The packet -/

/-- A data packet: the token, the data, and a check value high byte first. -/
def framedData (data : List Byte) (check : BitVec 16) : List Byte :=
  tokenStart :: data ++ [check.extractLsb' 8 8, check.extractLsb' 0 8]

theorem framedData_length (data : List Byte) (check : BitVec 16) : (framedData data check).length = data.length + 3 := by
  simp [framedData]

theorem framedData_getElem_data {data : List Byte} {k : Nat} (check : BitVec 16) (hk : k < data.length) :
    (framedData data check)[k + 1]'(by rw [framedData_length]; omega) = data[k] := by
  simp [framedData, hk]

theorem framedData_getElem_checkHi (data : List Byte) (check : BitVec 16) :
    (framedData data check)[data.length + 1]'(by rw [framedData_length]; omega) = check.extractLsb' 8 8 := by
  simp [framedData]

theorem framedData_getElem_checkLo (data : List Byte) (check : BitVec 16) :
    (framedData data check)[data.length + 2]'(by rw [framedData_length]; omega) = check.extractLsb' 0 8 := by
  simp [framedData]

/-- The data packet WRITE sends: the buffer with its own check value. -/
def packet (s : State) : List Byte := framedData (bufBytes s) (Config.crc16 (bufBytes s))

theorem packet_length (s : State) : (packet s).length = 515 := by
  rw [packet, framedData_length, bufBytes_length, blockLen]

/-- The packet depends on the buffer only. -/
theorem packet_congr {s t : State} (hbuf : t.buf = s.buf) (hresets : t.resets = s.resets) : packet t = packet s := by
  rw [packet, packet, bufBytes_congr hbuf hresets]

theorem bufBytes_getElem {s : State} {k : Nat} (hk : k < (bufBytes s).length) :
    (bufBytes s)[k] = bufByte s (BitVec.ofNat 9 k) := by
  simp [bufBytes]

theorem packet_getElem_payload {s : State} {k : Nat} (hk : k < 512) :
    (packet s)[k + 1]'(by rw [packet_length]; omega) = bufByte s (BitVec.ofNat 9 k) := by
  have hlen : k < (bufBytes s).length := by rwa [bufBytes_length]
  exact (framedData_getElem_data _ hlen).trans (bufBytes_getElem hlen)

theorem packet_getElem_checkHi (s : State) :
    (packet s)[513]'(by rw [packet_length]; omega) = (Config.crc16 (bufBytes s)).extractLsb' 8 8 := by
  have h := framedData_getElem_checkHi (bufBytes s) (Config.crc16 (bufBytes s))
  simpa only [bufBytes_length, blockLen, packet] using h

theorem packet_getElem_checkLo (s : State) :
    (packet s)[514]'(by rw [packet_length]; omega) = (Config.crc16 (bufBytes s)).extractLsb' 0 8 := by
  have h := framedData_getElem_checkLo (bufBytes s) (Config.crc16 (bufBytes s))
  simpa only [bufBytes_length, blockLen, packet] using h

/-! ## The points of the packet -/

/-- The control point at which `n` bytes of the packet have been sent. -/
def packetCtl (n : Nat) : Ctl :=
  if n = 0 then .token
  else if n ≤ 512 then .payloadOut (BitVec.ofNat 9 (n - 1))
  else if n = 513 then .checkOutHi
  else if n = 514 then .checkOutLo
  else .response

/-- The phase in which `n` bytes of the packet have been sent. -/
def packetPhase (n : Nat) : Phase :=
  if n = 0 then .tokenSent else if n ≤ 514 then .transfer else .responseCheck

/-- A state placed where `n` bytes of the packet have been sent. -/
def atPacketByte (n : Nat) (s : State) : State := { s with phase := packetPhase n, ctl := packetCtl n }

theorem packetCtl_payload {k : Nat} (hk : k < 512) : packetCtl (k + 1) = .payloadOut (BitVec.ofNat 9 k) := by
  simp [packetCtl, Nat.succ_le_of_lt hk]

theorem packetPhase_payload {k : Nat} (hk : k < 514) : packetPhase (k + 1) = .transfer := by
  simp [packetPhase, Nat.succ_le_of_lt hk]

theorem bufByte_atPacketByte (n : Nat) (s : State) (k : BitVec 9) : bufByte (atPacketByte n s) k = bufByte s k :=
  bufByte_congr rfl rfl k

theorem bufBytes_atPacketByte (n : Nat) (s : State) : bufBytes (atPacketByte n s) = bufBytes s :=
  bufBytes_congr rfl rfl

/-- After `BUF[k]` comes the next byte of the buffer, or the first check byte. -/
theorem packetCtl_after_payload {k : Nat} (hk : k < 512) :
    (if BitVec.ofNat 9 k = 511 then Ctl.checkOutHi else .payloadOut (BitVec.ofNat 9 k + 1)) = packetCtl (k + 2) := by
  have hlast : BitVec.ofNat 9 k = 511 ↔ k = 511 := by
    rw [← BitVec.toNat_inj, BitVec.toNat_ofNat, Nat.mod_eq_of_lt hk]; rfl
  by_cases h : k = 511
  · rw [if_pos (hlast.mpr h), h]; rfl
  · rw [if_neg (mt hlast.mp h), packetCtl_payload (by omega), BitVec.ofNat_add]; rfl

theorem sendPayload_atPacketByte {k : Nat} (hk : k < 512) (s : State) :
    sendPayload (BitVec.ofNat 9 k) (atPacketByte (k + 1) s) =
      atPacketByte (k + 2) (exchange (bufByte s (BitVec.ofNat 9 k)) s) := by
  have hphase : packetPhase (k + 1) = packetPhase (k + 2) := by
    rw [packetPhase_payload (by omega), packetPhase_payload (by omega)]
  rw [sendPayload, packetCtl_after_payload hk, bufByte_atPacketByte, atPacketByte, hphase]
  rfl

/-- At each point of the packet the controller's step sends the byte that stands there and goes on to the next point,
whatever the card answers. -/
theorem controllerStep_atPacketByte {n : Nat} (s : State) (hn : n < (packet s).length) :
    controllerStep (atPacketByte n s) = .next (atPacketByte (n + 1) (exchange (packet s)[n] s)) := by
  rw [packet_length] at hn
  obtain rfl | ⟨k, hk, rfl⟩ | rfl | rfl : n = 0 ∨ (∃ k < 512, n = k + 1) ∨ n = 513 ∨ n = 514 := by
    rcases n with _ | k
    · exact .inl rfl
    · by_cases hk : k < 512
      · exact .inr (.inl ⟨k, hk, rfl⟩)
      · omega
  · exact controllerStep_token rfl
  · rw [controllerStep_payloadOut (packetCtl_payload hk), sendPayload_atPacketByte hk, packet_getElem_payload hk]
  · rw [controllerStep_checkOutHi rfl, sendCheckHi, bufBytes_atPacketByte, packet_getElem_checkHi]
    rfl
  · rw [controllerStep_checkOutLo rfl, sendCheckLo, bufBytes_atPacketByte, packet_getElem_checkLo]
    rfl

/-- As many steps as the card answers bytes send as many bytes of the packet. -/
theorem controllerRun_packet {received rest : List Byte} {s : State} (hrx : s.rxQueue = received ++ rest)
    (hlen : received.length ≤ (packet s).length) :
    controllerRun received.length (atPacketByte 0 s) = .next (atPacketByte received.length
      (afterExchanges ((packet s).take received.length) received rest s)) := by
  induction received using List.reverseRecOn generalizing rest with
  | nil => exact congrArg (fun t => Host.Outcome.next (atPacketByte 0 t)) (afterExchanges_nil hrx).symm
  | append_singleton bs b ih =>
    rw [List.length_append, List.length_singleton] at hlen ⊢
    have hrun := ih (rest := b :: rest) (by simpa using hrx) (by omega)
    have hpacket : packet (afterExchanges ((packet s).take bs.length) bs (b :: rest) s) = packet s := packet_congr rfl rfl
    have hsent : ((packet s).take bs.length).length = bs.length := List.length_take_of_le (by omega)
    rw [controllerRun_add hrun, controllerRun_one, controllerStep_atPacketByte _ (by rw [hpacket]; omega),
      exchange_afterExchanges hsent, List.take_succ_eq_append_getElem hlen]
    simp only [hpacket]

/-- WRITE goes from a zero R1 to the first byte of the packet in two steps with no bus event. -/
theorem controllerRun_afterR1_of_write {s : State} (hctl : s.ctl = .afterR1) (hcmd : s.cmd = .cmd24) (hr1 : s.r1 = 0) :
    controllerRun 2 s = .next (atPacketByte 0 s) := by
  have hreceived : afterR1 s = r1Received s := by simp only [afterR1, hcmd]
  have htest : testR1 (r1Received s) = atPacketByte 0 s := by
    calc testR1 (r1Received s)
      _ = writeTestR1 (r1Received s) := if_pos hcmd
      _ = atPacketByte 0 s := if_pos hr1
  rw [controllerRun_succ (controllerStep_afterR1 hctl), hreceived, controllerRun_one, controllerStep_r1Test rfl, htest]

end Sys2Proof.Machine

namespace Sys2Proof

open Machine

/-- Settles O42: two steps lead to the packet, and each of its 515 points sends one byte of it. -/
theorem writeSendsTheDataPacket : Obligations.WriteSendsTheDataPacket := by
  unfold Obligations.WriteSendsTheDataPacket
  intro s received rest hctl hcmd hr1 hrx hlen
  have hpacket := controllerRun_packet hrx (by rw [packet_length, hlen])
  have hlast : received.getLastD s.lastRx = received.getD 514 0 := by
    rw [List.getLastD_eq_getLast?, List.getLast?_eq_getElem?, hlen, List.getD_eq_getElem?_getD,
      List.getElem?_eq_getElem (by omega)]
    rfl
  rw [hlen, List.take_of_length_le (packet_length s).le, afterExchanges, hlast, hlen] at hpacket
  exact (controllerRun_add (n := 515) (controllerRun_afterR1_of_write hctl hcmd hr1)).trans hpacket

end Sys2Proof
end

section
/-! What a step can do, said once: the controller's own step as a function of its control point, the operation a `CTRL` write
starts, and the kinds of a step. Every statement about all steps goes through `step_kind`. -/

namespace Sys2Proof.Machine

/-! ## The controller's own step -/

/-- The command a decoded frame is. -/
def commandOfInstr : Instr → Option Command
  | .cmd0 => some .cmd0
  | .cmd8 => some .cmd8
  | .cmd55 => some .cmd55
  | .acmd41 => some .acmd41
  | .cmd58 => some .cmd58
  | .cmd9 => some .cmd9
  | .cmd16 => some .cmd16
  | .cmd17 _ => some .cmd17
  | .cmd24 _ => some .cmd24
  | _ => none

/-- The command whose command phase begins: the one in FRAME, or the one called where FRAME holds none of the nine (R130, log
entry 17). -/
def commandToBegin (s : State) : Command :=
  match decodeCommand s.frame with
  | .ok i => (commandOfInstr i).getD s.cmd
  | .error _ => s.cmd

/-- The state after the controller's own step, by its control point. -/
def moveFrom (c : Ctl) (s : State) : State :=
  match c with
  | .idle => s
  | .initBaud => initBaud s
  | .sync sent => syncStep sent s
  | .initTime => startOpCond s
  | .encode o a => { s with ctl := .command, frame := encodeFrame o a }
  | .command => beginCommand (commandToBegin s) s
  | .readyTime => startReady s
  | .readyPoll => if rxNext s = idleByte then { pollReady s with ctl := .frame 0 } else readyBusy (pollReady s)
  | .readyTest => testReady s
  | .frame k => sendFrame k s
  | .frameFlush => flushFrame s
  | .waitR1 => if s.cnt < s.nR1 then (if (rxNext s).msb then pollR1 s else endR1 (pollR1 s)) else endR1 s
  | .afterR1 => afterR1 s
  | .r1Test => testR1 s
  | .reply k => recvReply k s
  | .waitToken =>
    if s.cnt < s.nToken then (if rxNext s = tokenStart then tokenFound (pollCounted s) else pollCounted s)
    else raise .tokenTimeout s
  | .csd k => recvCsd k s
  | .csdCheck k => recvCsdCheck k s
  | .burst => startBurst s
  | .payloadIn k => recvPayload k s
  | .checkInHi => recvCheckHi s
  | .checkInLo => recvCheckLo s
  | .crcCheck => checkBlock s
  | .token => sendToken s
  | .payloadOut k => sendPayload k s
  | .checkOutHi => sendCheckHi s
  | .checkOutLo => sendCheckLo s
  | .response =>
    if (rxNext s).extractLsb' 0 5 = dataAccepted then startProg { exchange idleByte s with phase := .programWait }
    else raise .writeRejected (exchange idleByte s)
  | .waitProg =>
    if s.cnt < s.nProg then (if rxNext s = idleByte then { pollCounted s with ctl := .release none } else pollCounted s)
    else progExhausted s
  | .release e => releaseCs e s
  | .flush e => flushRelease e s
  | .budget => testBudget s
  | .raiseBaud => raiseBaud s
  | .commit => commitInit s

/-- What a frame that decodes in the command slot has: the marker, a command in its opcode and argument, and the fill byte where
it carries no checksum (R82, R84, R86). -/
theorem decodeCommand_ok {f : Frame} {i : Instr} (h : decodeCommand f = .ok i) :
    frameMarker f = markerBits ∧ commandOf (frameOpcode f) (frameArg f) = .ok i ∧
    (crcMandatory (frameOpcode f) = true ∨ frameCheck f = idleByte) := by
  unfold decodeCommand at h
  split at h
  case isTrue hmarker =>
    split at h
    case isTrue hcheck => exact ⟨hmarker, h, by simpa using hcheck⟩
    case isFalse => cases h
  case isFalse => cases h

/-- A frame that decodes in the command slot is a command. -/
theorem commandOfInstr_of_decodeCommand {f : Frame} {i : Instr} (h : decodeCommand f = .ok i) :
    ∃ c, commandOfInstr i = some c := by
  obtain ⟨-, hi, -⟩ := decodeCommand_ok h
  obtain rfl | rfl | rfl | rfl | rfl | rfl | rfl | rfl | rfl := commandOf_ok hi <;> exact ⟨_, rfl⟩

/-- A command frame begins its command phase, whatever its argument. -/
theorem exec_of_commandOfInstr {i : Instr} {c : Command} (h : commandOfInstr i = some c) (s : State) :
    exec i s = .next (beginCommand c s) := by
  cases i <;> cases h <;> rfl

theorem controllerStep_command_eq {s : State} (h : s.ctl = .command) :
    controllerStep s = .next (beginCommand (commandToBegin s) s) := by
  obtain ⟨i, hd, hs⟩ | ⟨r, hd, hs⟩ := controllerStep_command h
  · obtain ⟨c, hc⟩ := commandOfInstr_of_decodeCommand hd
    have hbegin : commandToBegin s = c := by simp [commandToBegin, hd, hc]
    rw [hs, exec_of_commandOfInstr hc, hbegin]
  · have hbegin : commandToBegin s = s.cmd := by simp [commandToBegin, hd]
    rw [hs, hbegin]

/-- The controller's own step always has a next state, given by the control point. -/
theorem controllerStep_eq (s : State) : controllerStep s = .next (moveFrom s.ctl s) := by
  cases h : s.ctl with
  | idle => exact controllerStep_idle h
  | initBaud => exact controllerStep_initBaud h
  | sync sent => exact controllerStep_sync h
  | initTime => exact controllerStep_initTime h
  | encode o a => exact controllerStep_encode h
  | command => exact controllerStep_command_eq h
  | readyTime => exact controllerStep_readyTime h
  | readyPoll => exact controllerStep_readyPoll h
  | readyTest => exact controllerStep_readyTest h
  | frame k => exact controllerStep_frame h
  | frameFlush => exact controllerStep_frameFlush h
  | waitR1 => exact controllerStep_waitR1 h
  | afterR1 => exact controllerStep_afterR1 h
  | r1Test => exact controllerStep_r1Test h
  | reply k => exact controllerStep_reply h
  | waitToken => exact controllerStep_waitToken h
  | csd k => exact controllerStep_csd h
  | csdCheck k => exact controllerStep_csdCheck h
  | burst => exact controllerStep_burst h
  | payloadIn k => exact controllerStep_payloadIn h
  | checkInHi => exact controllerStep_checkInHi h
  | checkInLo => exact controllerStep_checkInLo h
  | crcCheck => exact controllerStep_crcCheck h
  | token => exact controllerStep_token h
  | payloadOut k => exact controllerStep_payloadOut h
  | checkOutHi => exact controllerStep_checkOutHi h
  | checkOutLo => exact controllerStep_checkOutLo h
  | response => exact controllerStep_response h
  | waitProg => exact controllerStep_waitProg h
  | release e => exact controllerStep_release h
  | flush e => exact controllerStep_flush h
  | budget => exact controllerStep_budget h
  | raiseBaud => exact controllerStep_raiseBaud h
  | commit => exact controllerStep_commit h

/-- The controller's own turn is its step, or the transport hangs. -/
theorem runTurn_ownTurn (s : State) :
    runTurn (ownTurn s) = .next (moveFrom s.ctl s) ∨
    (s.stalled = true ∧ exchangeDue s = true ∧ runTurn (ownTurn s) = .fault .transportHung) := by
  obtain ⟨hstalled, hdue, hturn⟩ | hturn := ownTurn_cases s
  · exact .inr ⟨hstalled, hdue, by rw [hturn]; rfl⟩
  · exact .inl (by rw [hturn]; exact controllerStep_eq s)

theorem runTurn_ownTurn_next {s t : State} (h : runTurn (ownTurn s) = .next t) : t = moveFrom s.ctl s := by
  obtain hown | ⟨-, -, hhung⟩ := runTurn_ownTurn s
  · exact (Host.Outcome.next.inj (hown.symm.trans h)).symm
  · cases hhung.symm.trans h

/-! ## The operation code of a `CTRL` write -/

/-- The two low bits of a written value name the operation (R94). -/
theorem decodeCtrl_cases (v : U32) :
    (v.toNat % 4 = 0 ∧ decodeCtrl v = .nop) ∨ (v.toNat % 4 = 1 ∧ decodeCtrl v = .init) ∨
    (v.toNat % 4 = 2 ∧ decodeCtrl v = .read) ∨ (v.toNat % 4 = 3 ∧ decodeCtrl v = .write) := by
  have hbits (n : BitVec 2) : v.extractLsb' 0 2 = n ↔ v.toNat % 4 = n.toNat := by
    rw [← BitVec.toNat_inj]; simp
  simp only [decodeCtrl, hbits]
  obtain h | h | h | h : v.toNat % 4 = 0 ∨ v.toNat % 4 = 1 ∨ v.toNat % 4 = 2 ∨ v.toNat % 4 = 3 := by omega
  all_goals simp [h]

/-! ## The kinds of a step -/

/-- The state with the host's side of the port and the environment's draws and stall as given: what a step that only looks at
the controller writes. -/
def withPort (inputs : List Input) (rdata : U32) (draws : Nat) (stalled : Bool) (s : State) : State :=
  { s with inputs := inputs, rdata := rdata, draws := draws, stalled := stalled }

/-- What a step that reaches `t` did. -/
inductive StepKind (s t : State) : Prop where
  /-- The controller's own step; a poll has read `STATUS` first. -/
  | own (i : List Input) (r : U32) (ht : t = moveFrom s.ctl (withPort i r s.draws s.stalled s))
  /-- An input that leaves the controller as it is: a read, an ignored write, NOP, a poll that has found `DONE`, a stall. -/
  | port (i : List Input) (r : U32) (d : Nat) (b : Bool) (ht : t = withPort i r d b s)
  /-- A register write at rest. -/
  | store (r : HostReg) (v : U32) (i : List Input) (hrest : s.busy = false)
      (ht : t = storeHostReg r v (withPort i s.rdata s.draws s.stalled s))
  /-- A buffer write at rest. -/
  | storeByte (k : BitVec 9) (v : Byte) (rest : List Input) (hrest : s.busy = false)
      (hin : s.inputs = .host (.bufWrite k v) :: rest)
      (ht : t = setBufByte (withPort rest s.rdata s.draws s.stalled s) k v)
  /-- START of an operation at rest. -/
  | start (op : HostOp) (v : U32) (rest : List Input) (hrest : s.busy = false)
      (hin : s.inputs = .host (.regWrite 0 v) :: rest) (hop : op ≠ .nop) (hinit : op = .init → v.toNat % 4 = 1)
      (ht : t = launch (latchStart op (withPort rest s.rdata s.draws s.stalled s)))
  /-- Reset. -/
  | reset (rest : List Input) (hin : s.inputs = .reset :: rest)
      (ht : t = resetController (withPort rest s.rdata s.draws s.stalled s))

/-- A START is ignored while busy and launches at rest. -/
theorem start_kind {s t : State} {op : HostOp} {v : U32} {rest : List Input}
    (hin : s.inputs = .host (.regWrite 0 v) :: rest) (hop : op ≠ .nop) (hinit : op = .init → v.toNat % 4 = 1)
    (ht : t = start op (withPort rest s.rdata s.draws s.stalled s)) : StepKind s t := by
  cases hbusy : s.busy with
  | true => exact .port rest s.rdata s.draws s.stalled (ht.trans (start_of_busy hbusy))
  | false => exact .start op v rest hbusy hin hop hinit (ht.trans (start_of_idle hbusy))

theorem ctrlWrite_kind {s t : State} {v : U32} {rest : List Input} (hin : s.inputs = .host (.regWrite 0 v) :: rest)
    (h : exec (decodeCtrl v) (withPort rest s.rdata s.draws s.stalled s) = .next t) : StepKind s t := by
  obtain ⟨-, hd⟩ | ⟨hv, hd⟩ | ⟨-, hd⟩ | ⟨-, hd⟩ := decodeCtrl_cases v <;> rw [hd] at h
  · exact .port rest s.rdata s.draws s.stalled (Host.Outcome.next.inj h).symm
  · exact start_kind (op := .init) hin (by decide) (fun _ => hv) (Host.Outcome.next.inj h).symm
  · exact start_kind (op := .read) hin (by decide) (fun hop => by cases hop) (Host.Outcome.next.inj h).symm
  · exact start_kind (op := .write) hin (by decide) (fun hop => by cases hop) (Host.Outcome.next.inj h).symm

/-- Only number 0 names `CTRL`. -/
theorem eq_zero_of_hostReg_ctrl {i : Nat} (h : hostReg i = some .ctrl) : i = 0 := by
  unfold hostReg at h
  split at h
  case h_1 => rfl
  all_goals cases h

theorem runTurn_regWrite {i : Nat} (v : U32) (s : State) (hi : i ≠ 0) :
    runTurn (hostTurn (.regWrite i v) s) =
      .next (match hostReg i with | none => s | some r => writeHostReg r v s) := by
  cases hr : hostReg i with
  | none => simp [hostTurn, hr, runTurn]
  | some r =>
    have hctrl : r ≠ .ctrl := fun hc => hi (eq_zero_of_hostReg_ctrl (hc ▸ hr))
    cases r
    case ctrl => exact absurd rfl hctrl
    all_goals simp [hostTurn, hr, runTurn]

theorem hostTurn_kind {s t : State} {a : HostAction} {rest : List Input} (hin : s.inputs = .host a :: rest)
    (h : runTurn (hostTurn a (withPort rest s.rdata s.draws s.stalled s)) = .next t) : StepKind s t := by
  cases a with
  | regWrite i v =>
    by_cases hi : i = 0
    · subst hi; exact ctrlWrite_kind hin h
    · rw [runTurn_regWrite v _ hi] at h
      replace h := (Host.Outcome.next.inj h).symm
      cases hr : hostReg i with
      | none => exact .port rest s.rdata s.draws s.stalled (by simpa [hr] using h)
      | some r =>
        cases hbusy : s.busy with
        | true => exact .port rest s.rdata s.draws s.stalled (by simpa [hr, writeHostReg, withPort, hbusy] using h)
        | false => exact .store r v rest hbusy (by simpa [hr, writeHostReg, withPort, hbusy] using h)
  | regRead i => exact .port rest _ s.draws s.stalled (Host.Outcome.next.inj h).symm
  | bufWrite k v =>
    replace h := (Host.Outcome.next.inj h).symm
    cases hbusy : s.busy with
    | true => exact .port rest s.rdata s.draws s.stalled (by simpa [bufWrite, withPort, hbusy] using h)
    | false => exact .storeByte k v rest hbusy hin (by simpa [bufWrite, withPort, hbusy] using h)
  | bufRead k => exact .port rest _ (s.draws + 1) s.stalled (Host.Outcome.next.inj h).symm

/-- Every step is of one of the kinds. -/
theorem step_kind {s t : State} (h : step s = .next t) : StepKind s t := by
  unfold step at h
  obtain ⟨hin, hturn⟩ | ⟨rest, hin, hturn⟩ | ⟨a, rest, hin, hturn⟩ | ⟨rest, hin, hturn⟩ | ⟨rest, hin, hturn⟩ |
    ⟨rest, hin, -, hturn⟩ | ⟨rest, hin, -, hturn⟩ := nextTurn_cases s <;> rw [hturn] at h
  case inl => exact .own s.inputs s.rdata (runTurn_ownTurn_next h)
  case inr.inl => exact .own rest s.rdata (runTurn_ownTurn_next h)
  case inr.inr.inl => exact hostTurn_kind hin h
  case inr.inr.inr.inl => exact .reset rest hin (Host.Outcome.next.inj h).symm
  case inr.inr.inr.inr.inl => exact .port rest s.rdata s.draws true (Host.Outcome.next.inj h).symm
  case inr.inr.inr.inr.inr.inl => exact .port rest (statusWord s) s.draws s.stalled (Host.Outcome.next.inj h).symm
  case inr.inr.inr.inr.inr.inr => exact .own s.inputs (statusWord s) (runTurn_ownTurn_next h)

end Sys2Proof.Machine
end

section
/-! What steps leave unchanged: the host's configuration, the buffer and the descriptor (R27, R29, R31, R75). -/

namespace Sys2Proof.Machine

/-! ## What the controller's own step keeps -/

/-- The values of the RW registers (R27). -/
def configuration (s : State) : U32 × U32 × U32 × U32 × U32 × U32 × U32 × U32 × BitVec 8 :=
  (s.blkaddr, s.baudHz, s.tReadyMs, s.nR1, s.nToken, s.nProg, s.tInitMs, s.nSync, s.datainPin)

/-- What the controller's own step leaves unchanged but at two control points: the configuration, the buffer and the
descriptor. -/
def kept (s : State) : (U32 × U32 × U32 × U32 × U32 × U32 × U32 × U32 × BitVec 8) × Memory × Nat × Descriptor :=
  (configuration s, s.buf, s.resets, s.cd)

theorem kept_eq_iff {s t : State} :
    kept t = kept s ↔ configuration t = configuration s ∧ t.buf = s.buf ∧ t.resets = s.resets ∧ t.cd = s.cd := by
  simp only [kept, Prod.mk.injEq]

/-- A branch keeps what both its sides keep. -/
theorem kept_ite {c : Prop} [Decidable c] {s t u : State} (ht : kept t = kept s) (hu : kept u = kept s) :
    kept (if c then t else u) = kept s := by
  split
  · exact ht
  · exact hu

theorem kept_raise (e : ErrorKind) (s : State) : kept (raise e s) = kept s := kept_ite rfl rfl

theorem kept_afterR1 (s : State) : kept (afterR1 s) = kept s := by
  unfold afterR1
  split
  case h_6 => exact kept_ite rfl (kept_raise _ s)
  all_goals rfl

theorem kept_testR1 (s : State) : kept (testR1 s) = kept s :=
  kept_ite (kept_ite rfl (kept_raise _ s)) (kept_ite rfl (kept_raise _ s))

theorem kept_checkBlock (s : State) : kept (checkBlock s) = kept s :=
  kept_ite (kept_ite rfl (kept_raise _ s)) (kept_raise _ s)

theorem kept_afterTransaction (s : State) : kept (afterTransaction s) = kept s := by
  unfold afterTransaction
  split
  · exact kept_ite (kept_raise _ s) rfl
  · exact kept_ite (kept_raise _ { s with diagIfcond := s.rep }) rfl
  · rfl
  · exact kept_ite rfl rfl
  · exact kept_ite rfl (kept_raise _ s)
  · exact kept_ite rfl rfl
  · exact kept_ite rfl (kept_raise _ s)
  · rfl
  · rfl

theorem kept_flushRelease (e : Option ErrorKind) (s : State) : kept (flushRelease e s) = kept s := by
  cases e with
  | none => exact kept_afterTransaction (exchange idleByte s)
  | some k => rfl

/-- Only the payload of READ writes the buffer, and only the end of INIT the descriptor. -/
theorem kept_moveFrom {c : Ctl} (s : State) (hpayload : ∀ k, c ≠ .payloadIn k) (hcommit : c ≠ .commit) :
    kept (moveFrom c s) = kept s := by
  cases c with
  | sync _ => exact kept_ite rfl rfl
  | readyPoll => exact kept_ite rfl rfl
  | readyTest => exact kept_ite (kept_raise _ { sampleTime s with r1 := 0xFF }) rfl
  | waitR1 => exact kept_ite (kept_ite rfl rfl) rfl
  | afterR1 => exact kept_afterR1 s
  | r1Test => exact kept_testR1 s
  | waitToken => exact kept_ite (kept_ite (kept_ite rfl rfl) rfl) (kept_raise _ s)
  | payloadIn k => exact absurd rfl (hpayload k)
  | crcCheck => exact kept_checkBlock s
  | response => exact kept_ite rfl (kept_raise _ (exchange idleByte s))
  | waitProg => exact kept_ite (kept_ite rfl rfl) (kept_raise _ s)
  | flush e => exact kept_flushRelease e s
  | budget => exact kept_ite (kept_raise _ (sampleTime s)) rfl
  | commit => exact absurd rfl hcommit
  | _ => rfl

theorem kept_beginTransfer (c : Command) (o : BitVec 6) (s : State) : kept (beginTransfer c o s) = kept s :=
  kept_ite rfl rfl

/-- A payload byte is all that a step of the payload writes of these. -/
theorem recvPayload_keeps (k : BitVec 10) (s : State) :
    configuration (recvPayload k s) = configuration s ∧ (recvPayload k s).resets = s.resets ∧
    (recvPayload k s).cd = s.cd := by
  obtain ⟨-, h⟩ | ⟨-, h⟩ := recvPayload_cases k s <;> rw [h] <;> exact ⟨rfl, rfl, rfl⟩

theorem configuration_moveFrom (c : Ctl) (s : State) : configuration (moveFrom c s) = configuration s := by
  by_cases hpayload : ∃ k, c = .payloadIn k
  · obtain ⟨k, rfl⟩ := hpayload
    exact (recvPayload_keeps k s).1
  · by_cases hcommit : c = .commit
    · rw [hcommit]; rfl
    · exact (kept_eq_iff.mp (kept_moveFrom s (not_exists.mp hpayload) hcommit)).1

/-! ## What a START and a register write keep -/

/-- START of a transfer writes neither configuration, buffer nor descriptor. -/
theorem kept_launch_latchStart {op : HostOp} (s : State) (hop : op ≠ .init) :
    kept (launch (latchStart op s)) = kept s := by
  cases op with
  | nop => rfl
  | init => exact absurd rfl hop
  | read => exact kept_beginTransfer .cmd17 opcReadSingle (latchStart .read s)
  | write => exact kept_beginTransfer .cmd24 opcWriteSingle (latchStart .write s)

/-- START writes no buffer byte. -/
theorem launch_latchStart_buf (op : HostOp) (s : State) :
    (launch (latchStart op s)).buf = s.buf ∧ (launch (latchStart op s)).resets = s.resets := by
  by_cases hop : op = .init
  · subst hop; exact ⟨rfl, rfl⟩
  · obtain ⟨-, hbuf, hresets, -⟩ := kept_eq_iff.mp (kept_launch_latchStart s hop)
    exact ⟨hbuf, hresets⟩

theorem storeHostReg_buf (r : HostReg) (v : U32) (s : State) :
    (storeHostReg r v s).buf = s.buf ∧ (storeHostReg r v s).resets = s.resets ∧ (storeHostReg r v s).cd = s.cd := by
  cases r <;> exact ⟨rfl, rfl, rfl⟩

theorem bufByte_setBufByte (s : State) (k j : BitVec 9) (v : Byte) :
    bufByte (setBufByte s k v) j = if j = k then v else bufByte s j := by
  split
  case isTrue h => rw [h, bufByte_setBufByte_same]
  case isFalse h => rw [bufByte_setBufByte_other s v h]

end Sys2Proof.Machine

namespace Sys2Proof

open Machine

/-- Settles O53: of the kinds of a step, only a host write at rest, a payload byte and reset touch the buffer. -/
theorem onlyReadAndHostWriteTheBuffer : Obligations.OnlyReadAndHostWriteTheBuffer := by
  unfold Obligations.OnlyReadAndHostWriteTheBuffer
  intro s t hstep
  cases step_kind hstep with
  | own i r ht =>
    subst ht
    by_cases hpayload : ∃ k, s.ctl = .payloadIn k
    · obtain ⟨k, hk⟩ := hpayload
      obtain ⟨hlt, h⟩ | ⟨-, h⟩ := recvPayload_cases k (withPort i r s.draws s.stalled s)
      · refine .inr (.inr (.inr ⟨k, hk, hlt, fun j => ?_⟩))
        rw [hk, moveFrom, h]
        exact bufByte_setBufByte _ _ j _
      · rw [hk, moveFrom, h]
        exact .inl fun j => bufByte_congr (s := s) rfl rfl j
    · refine .inl fun j => ?_
      by_cases hcommit : s.ctl = .commit
      · rw [hcommit]; exact bufByte_congr (s := s) rfl rfl j
      · obtain ⟨-, hbuf, hresets, -⟩ :=
          kept_eq_iff.mp (kept_moveFrom (withPort i r s.draws s.stalled s) (not_exists.mp hpayload) hcommit)
        exact bufByte_congr hbuf hresets j
  | port i r d b ht => subst ht; exact .inl fun j => bufByte_congr (s := s) rfl rfl j
  | store r v i _ ht =>
    obtain ⟨hbuf, hresets, -⟩ := storeHostReg_buf r v (withPort i s.rdata s.draws s.stalled s)
    exact .inl fun j => by rw [ht]; exact bufByte_congr hbuf hresets j
  | storeByte k v rest hrest hin ht =>
    exact .inr (.inr (.inl ⟨hrest, k, v, rest, hin, fun j => by rw [ht]; exact bufByte_setBufByte _ k j v⟩))
  | start op v rest _ _ _ _ ht =>
    obtain ⟨hbuf, hresets⟩ := launch_latchStart_buf op (withPort rest s.rdata s.draws s.stalled s)
    exact .inl fun j => by rw [ht]; exact bufByte_congr hbuf hresets j
  | reset rest hin _ => exact .inr (.inl (by rw [hin]; rfl))

/-- Settles O54: of the kinds of a step, only START of INIT, the commit and reset write the descriptor. -/
theorem onlyInitWritesTheDescriptor : Obligations.OnlyInitWritesTheDescriptor := by
  unfold Obligations.OnlyInitWritesTheDescriptor
  intro s t hstep
  cases step_kind hstep with
  | own i r ht =>
    subst ht
    by_cases hcommit : s.ctl = .commit
    · exact .inr (.inr (.inr ⟨hcommit, by rw [hcommit]; exact ⟨rfl, rfl, rfl⟩⟩))
    · refine .inl ?_
      by_cases hpayload : ∃ k, s.ctl = .payloadIn k
      · obtain ⟨k, hk⟩ := hpayload
        obtain ⟨-, -, hcd⟩ := recvPayload_keeps k (withPort i r s.draws s.stalled s)
        rw [hk]; exact hcd
      · obtain ⟨-, -, -, hcd⟩ :=
          kept_eq_iff.mp (kept_moveFrom (withPort i r s.draws s.stalled s) (not_exists.mp hpayload) hcommit)
        exact hcd
  | port i r d b ht => exact .inl (by rw [ht]; rfl)
  | store r v i _ ht =>
    obtain ⟨-, -, hcd⟩ := storeHostReg_buf r v (withPort i s.rdata s.draws s.stalled s)
    exact .inl (by rw [ht]; exact hcd)
  | storeByte k v rest _ _ ht => exact .inl (by rw [ht]; rfl)
  | start op v rest hrest hin _ hinit ht =>
    subst ht
    by_cases hop : op = .init
    · subst hop; exact .inr (.inr (.inl ⟨hrest, rfl, v, rest, hin, hinit rfl⟩))
    · obtain ⟨-, -, -, hcd⟩ := kept_eq_iff.mp (kept_launch_latchStart (withPort rest s.rdata s.draws s.stalled s) hop)
      exact .inl hcd
  | reset rest hin _ => exact .inr (.inl (by rw [hin]; rfl))

/-- Settles O55: while busy a step is the controller's own or leaves the controller as it is, unless it is reset. -/
theorem configurationHoldsDuringAnOperation : Obligations.ConfigurationHoldsDuringAnOperation := by
  unfold Obligations.ConfigurationHoldsDuringAnOperation
  intro s t hstep hbusy hreset
  have hconfig : configuration t = configuration s := by
    cases step_kind hstep with
    | own i r ht => rw [ht]; exact configuration_moveFrom s.ctl (withPort i r s.draws s.stalled s)
    | port i r d b ht => rw [ht]; rfl
    | store r v i hrest _ => simp [hbusy] at hrest
    | storeByte k v rest hrest _ _ => simp [hbusy] at hrest
    | start op v rest hrest _ _ _ _ => simp [hbusy] at hrest
    | reset rest hin _ => simp [hin] at hreset
  simpa only [configuration, Prod.mk.injEq] using hconfig

end Sys2Proof
end

section
/-! The bus: the one event a step may make, and how events, chip-select and control point go together (R7, R135, R136). -/

namespace Sys2Proof.Machine

/-! ## Events -/

/-- Chip-select after an event, if any. -/
def csAfter : Option BusEvent → Bool → Bool
  | some .csAssert, _ => true
  | some .csDeassert, _ => false
  | _, cs => cs

/-- Whether an event keeps a trace bracketed, by chip-select as it stands before it (R135). -/
def legalEvent : Option BusEvent → Bool → Bool
  | some .csAssert, cs => !cs
  | some .csDeassert, cs => cs
  | some (.xchg tx _), cs => cs || tx == idleByte
  | some (.setBaud _), cs => !cs
  | some (.now _), _ => true
  | none, _ => true

/-- Chip-select stands as the control point says (R136). -/
def CsPlaced (s : State) : Prop := s.cs = s.ctl.inTransaction

/-- From `s` to `t` the event `e`, if any, was made, and no other. -/
structure BusMove (s t : State) (e : Option BusEvent) : Prop where
  trace : t.trace = e.toList ++ s.trace
  cs : t.cs = csAfter e s.cs
  legal : CsPlaced s → legalEvent e s.cs = true
  placed : CsPlaced s → CsPlaced t

/-- A trace that ends with chip-select as it stands and is bracketed stays so. -/
theorem BusMove.bracketed {s t : State} {e : Option BusEvent} (h : BusMove s t e) (hplaced : CsPlaced s)
    (hcs : traceCs s.trace = s.cs) (hok : bracketed s.trace = true) :
    traceCs t.trace = t.cs ∧ bracketed t.trace = true := by
  have hlegal := h.legal hplaced
  rw [h.trace, h.cs]
  rcases e with _ | (_ | _ | _ | _ | _) <;> simp_all [csAfter, legalEvent, traceCs, Machine.bracketed]

/-! ## The shapes of a step on the bus -/

/-- A step that makes no event and stays inside, or outside, a transaction. -/
theorem BusMove.quiet {s t : State} (htrace : t.trace = s.trace) (hcs : t.cs = s.cs)
    (hctl : t.ctl.inTransaction = s.ctl.inTransaction) : BusMove s t none :=
  ⟨htrace, hcs, fun _ => rfl, fun h => (hcs.trans h).trans hctl.symm⟩

/-- An exchange: any byte inside a transaction, the idle byte outside. -/
theorem BusMove.xchg {s t : State} {tx rx : Byte} (htrace : t.trace = .xchg tx rx :: s.trace) (hcs : t.cs = s.cs)
    (hctl : t.ctl.inTransaction = s.ctl.inTransaction) (htx : s.ctl.inTransaction = true ∨ tx = idleByte) :
    BusMove s t (some (.xchg tx rx)) := by
  refine ⟨htrace, hcs, fun h => ?_, fun h => (hcs.trans h).trans hctl.symm⟩
  rw [legalEvent, h]
  obtain htx | htx := htx <;> simp [htx]

theorem BusMove.now {s t : State} {r : U32} (htrace : t.trace = .now r :: s.trace) (hcs : t.cs = s.cs)
    (hctl : t.ctl.inTransaction = s.ctl.inTransaction) : BusMove s t (some (.now r)) :=
  ⟨htrace, hcs, fun _ => rfl, fun h => (hcs.trans h).trans hctl.symm⟩

/-- The bus rate changes outside a transaction. -/
theorem BusMove.setBaud {s t : State} {hz : U32} (htrace : t.trace = .setBaud hz :: s.trace) (hcs : t.cs = s.cs)
    (hs : s.ctl.inTransaction = false) (ht : t.ctl.inTransaction = false) : BusMove s t (some (.setBaud hz)) :=
  ⟨htrace, hcs, fun h => by rw [legalEvent, h, hs]; rfl, fun h => (hcs.trans h).trans (hs.trans ht.symm)⟩

/-- The failure exit makes no event, and goes to RELEASE exactly where chip-select is asserted. -/
theorem raise_bus (e : ErrorKind) (s : State) :
    (raise e s).trace = s.trace ∧ (raise e s).cs = s.cs ∧ CsPlaced (raise e s) := by
  obtain ⟨hcs, h⟩ | ⟨hcs, h⟩ := raise_cases e s <;> rw [h] <;> exact ⟨rfl, rfl, hcs⟩

/-- Raising an error adds nothing to the event that came before it. -/
theorem BusMove.raise {s u : State} {e : Option BusEvent} (k : ErrorKind) (htrace : u.trace = e.toList ++ s.trace)
    (hcs : u.cs = csAfter e s.cs) (hlegal : CsPlaced s → legalEvent e s.cs = true) : BusMove s (raise k u) e := by
  obtain ⟨htr, hc, hp⟩ := raise_bus k u
  exact ⟨htr.trans htrace, hc.trans hcs, hlegal, fun _ => hp⟩

theorem BusMove.raise_quiet (k : ErrorKind) {s u : State} (htrace : u.trace = s.trace) (hcs : u.cs = s.cs) :
    BusMove s (Machine.raise k u) none := .raise k htrace hcs fun _ => rfl

/-! ## The event of the controller's own step -/

/-- Whatever is decided, the event is the same. -/
theorem exists_busMove_ite {c : Prop} [Decidable c] {s t u : State} (ht : c → ∃ e, BusMove s t e)
    (hu : ¬ c → ∃ e, BusMove s u e) : ∃ e, BusMove s (if c then t else u) e := by
  split
  case isTrue h => exact ht h
  case isFalse h => exact hu h

theorem beginCommand_inTransaction (c : Command) (s : State) : (beginCommand c s).ctl.inTransaction = true := by
  simp only [beginCommand]; split <;> rfl

theorem sendFrame_inTransaction (k : Fin 6) (s : State) : (sendFrame k s).ctl.inTransaction = true := by
  simp only [sendFrame]; split <;> rfl

theorem recvReply_inTransaction (k : Fin 4) (s : State) : (recvReply k s).ctl.inTransaction = true := by
  simp only [recvReply]; split <;> rfl

theorem recvCsd_inTransaction (k : Fin 16) (s : State) : (recvCsd k s).ctl.inTransaction = true := by
  simp only [recvCsd]; split <;> rfl

theorem recvCsdCheck_inTransaction (k : Fin 2) (s : State) : (recvCsdCheck k s).ctl.inTransaction = true := by
  simp only [recvCsdCheck]; split <;> rfl

theorem sendPayload_inTransaction (k : BitVec 9) (s : State) : (sendPayload k s).ctl.inTransaction = true := by
  simp only [sendPayload]; split <;> rfl

section
variable {s : State}

theorem exists_busMove_afterR1 (hin : s.ctl.inTransaction = true) : ∃ e, BusMove s (afterR1 s) e := by
  unfold afterR1
  split
  case h_6 =>
    exact exists_busMove_ite (fun _ => ⟨_, .quiet rfl rfl hin.symm⟩) (fun _ => ⟨_, .raise_quiet _ rfl rfl⟩)
  all_goals exact ⟨_, .quiet rfl rfl hin.symm⟩

theorem exists_busMove_testR1 (hin : s.ctl.inTransaction = true) : ∃ e, BusMove s (testR1 s) e :=
  exists_busMove_ite
    (fun _ => exists_busMove_ite (fun _ => ⟨_, .quiet rfl rfl hin.symm⟩) (fun _ => ⟨_, .raise_quiet _ rfl rfl⟩))
    (fun _ => exists_busMove_ite (fun _ => ⟨_, .quiet rfl rfl hin.symm⟩) (fun _ => ⟨_, .raise_quiet _ rfl rfl⟩))

/-- What follows the flush byte of RELEASE makes no event and begins no transaction. -/
theorem afterTransaction_bus (s : State) :
    (afterTransaction s).trace = s.trace ∧ (afterTransaction s).cs = s.cs ∧
    (s.cs = false → CsPlaced (afterTransaction s)) := by
  have hraise (k : ErrorKind) (u : State) (htrace : u.trace = s.trace) (hcs : u.cs = s.cs) :
      (raise k u).trace = s.trace ∧ (raise k u).cs = s.cs ∧ (s.cs = false → CsPlaced (raise k u)) := by
    obtain ⟨htr, hc, hp⟩ := raise_bus k u
    exact ⟨htr.trans htrace, hc.trans hcs, fun _ => hp⟩
  unfold afterTransaction
  split
  · unfold afterCmd0; split
    · exact hraise _ s rfl rfl
    · exact ⟨rfl, rfl, id⟩
  · unfold afterCmd8; split
    · exact hraise _ { s with diagIfcond := s.rep } rfl rfl
    · exact ⟨rfl, rfl, id⟩
  · exact ⟨rfl, rfl, id⟩
  · unfold afterAcmd41; split <;> exact ⟨rfl, rfl, id⟩
  · unfold afterCmd58; split
    · exact ⟨rfl, rfl, id⟩
    · exact hraise _ s rfl rfl
  · unfold afterCmd9; split <;> exact ⟨rfl, rfl, id⟩
  · unfold afterCmd16; split
    · exact ⟨rfl, rfl, id⟩
    · exact hraise _ s rfl rfl
  · exact ⟨rfl, rfl, id⟩
  · exact ⟨rfl, rfl, id⟩

theorem exists_busMove_flushRelease (e : Option ErrorKind) (hin : s.ctl.inTransaction = false) :
    ∃ ev, BusMove s (flushRelease e s) ev := by
  have hlegal (rx : Byte) : legalEvent (some (.xchg idleByte rx)) s.cs = true := by simp [legalEvent]
  refine ⟨some (.xchg idleByte (rxNext s)), ?_⟩
  cases e with
  | some k => exact .xchg rfl rfl hin.symm (.inr rfl)
  | none =>
    obtain ⟨htrace, hcs, hplaced⟩ := afterTransaction_bus (exchange idleByte s)
    exact ⟨htrace, hcs, fun _ => hlegal _, fun h => hplaced (h.trans hin)⟩

/-- The controller's own step makes one event or none, as the control point lets it. -/
theorem exists_busMove_moveFrom {c : Ctl} (hctl : s.ctl = c) : ∃ e, BusMove s (moveFrom c s) e := by
  have hin : s.ctl.inTransaction = c.inTransaction := congrArg _ hctl
  cases c with
  | idle => exact ⟨none, .quiet rfl rfl rfl⟩
  | initBaud => exact ⟨_, .setBaud rfl rfl hin rfl⟩
  | sync k =>
    exact exists_busMove_ite (fun _ => ⟨_, .xchg rfl rfl hin.symm (.inr rfl)⟩) (fun _ => ⟨_, .quiet rfl rfl hin.symm⟩)
  | initTime => exact ⟨_, .now rfl rfl hin.symm⟩
  | encode o a => exact ⟨none, .quiet rfl rfl hin.symm⟩
  | command =>
    refine ⟨some .csAssert, rfl, rfl, fun h => ?_, fun _ => (beginCommand_inTransaction _ s).symm⟩
    rw [legalEvent, h, hin]; rfl
  | readyTime => exact ⟨_, .now rfl rfl hin.symm⟩
  | readyPoll =>
    exact exists_busMove_ite (fun _ => ⟨_, .xchg rfl rfl hin.symm (.inr rfl)⟩)
      (fun _ => ⟨_, .xchg rfl rfl hin.symm (.inr rfl)⟩)
  | readyTest =>
    exact exists_busMove_ite
      (fun _ => ⟨some (.now _), .raise (u := { sampleTime s with r1 := 0xFF }) _ rfl rfl fun _ => rfl⟩)
      (fun _ => ⟨_, .now rfl rfl hin.symm⟩)
  | frame k => exact ⟨_, .xchg rfl rfl ((sendFrame_inTransaction k s).trans hin.symm) (.inl hin)⟩
  | frameFlush => exact ⟨_, .xchg rfl rfl hin.symm (.inr rfl)⟩
  | waitR1 =>
    exact exists_busMove_ite
      (fun _ => exists_busMove_ite (fun _ => ⟨_, .xchg rfl rfl rfl (.inr rfl)⟩)
        (fun _ => ⟨_, .xchg rfl rfl hin.symm (.inr rfl)⟩))
      (fun _ => ⟨_, .quiet rfl rfl hin.symm⟩)
  | afterR1 => exact exists_busMove_afterR1 hin
  | r1Test => exact exists_busMove_testR1 hin
  | reply k => exact ⟨_, .xchg rfl rfl ((recvReply_inTransaction k s).trans hin.symm) (.inr rfl)⟩
  | waitToken =>
    exact exists_busMove_ite
      (fun _ => exists_busMove_ite
        (fun _ => exists_busMove_ite (fun _ => ⟨_, .xchg rfl rfl hin.symm (.inr rfl)⟩)
          (fun _ => ⟨_, .xchg rfl rfl hin.symm (.inr rfl)⟩))
        (fun _ => ⟨_, .xchg rfl rfl rfl (.inr rfl)⟩))
      (fun _ => ⟨_, .raise_quiet _ rfl rfl⟩)
  | csd k => exact ⟨_, .xchg rfl rfl ((recvCsd_inTransaction k s).trans hin.symm) (.inr rfl)⟩
  | csdCheck k => exact ⟨_, .xchg rfl rfl ((recvCsdCheck_inTransaction k s).trans hin.symm) (.inr rfl)⟩
  | burst => exact ⟨none, .quiet rfl rfl hin.symm⟩
  | payloadIn k =>
    exact exists_busMove_ite (fun _ => ⟨_, .xchg rfl rfl hin.symm (.inr rfl)⟩) (fun _ => ⟨_, .quiet rfl rfl hin.symm⟩)
  | checkInHi => exact ⟨_, .xchg rfl rfl hin.symm (.inr rfl)⟩
  | checkInLo => exact ⟨_, .xchg rfl rfl hin.symm (.inr rfl)⟩
  | crcCheck =>
    exact exists_busMove_ite
      (fun _ => exists_busMove_ite (fun _ => ⟨_, .quiet rfl rfl hin.symm⟩) (fun _ => ⟨_, .raise_quiet _ rfl rfl⟩))
      (fun _ => ⟨_, .raise_quiet _ rfl rfl⟩)
  | token => exact ⟨_, .xchg rfl rfl hin.symm (.inl hin)⟩
  | payloadOut k => exact ⟨_, .xchg rfl rfl ((sendPayload_inTransaction k s).trans hin.symm) (.inl hin)⟩
  | checkOutHi => exact ⟨_, .xchg rfl rfl hin.symm (.inl hin)⟩
  | checkOutLo => exact ⟨_, .xchg rfl rfl hin.symm (.inl hin)⟩
  | response =>
    exact exists_busMove_ite (fun _ => ⟨_, .xchg rfl rfl hin.symm (.inr rfl)⟩)
      (fun _ => ⟨some (.xchg idleByte _), .raise (u := exchange idleByte s) _ rfl rfl fun _ => by simp [legalEvent]⟩)
  | waitProg =>
    exact exists_busMove_ite
      (fun _ => exists_busMove_ite (fun _ => ⟨_, .xchg rfl rfl hin.symm (.inr rfl)⟩)
        (fun _ => ⟨_, .xchg rfl rfl rfl (.inr rfl)⟩))
      (fun _ => ⟨_, .raise_quiet _ rfl rfl⟩)
  | release e =>
    refine ⟨some .csDeassert, rfl, rfl, fun h => ?_, fun _ => rfl⟩
    rw [legalEvent, h, hin]; rfl
  | flush e => exact exists_busMove_flushRelease e hin
  | budget =>
    exact exists_busMove_ite (fun _ => ⟨some (.now _), .raise (u := sampleTime s) _ rfl rfl fun _ => rfl⟩)
      (fun _ => ⟨_, .now rfl rfl hin.symm⟩)
  | raiseBaud => exact ⟨_, .setBaud rfl rfl hin rfl⟩
  | commit => exact ⟨none, .quiet rfl rfl hin.symm⟩

end

/-! ## The bus in the other kinds of a step -/

/-- START makes no event: its outcome is a control point outside a transaction. -/
theorem launch_latchStart_bus (op : HostOp) (s : State) :
    (launch (latchStart op s)).trace = s.trace ∧ (launch (latchStart op s)).cs = s.cs ∧
    (op ≠ .nop → (launch (latchStart op s)).ctl.inTransaction = false) := by
  have htransfer (c : Command) (o : BitVec 6) (u : State) : (beginTransfer c o u).trace = u.trace ∧
      (beginTransfer c o u).cs = u.cs ∧ (beginTransfer c o u).ctl.inTransaction = false := by
    by_cases h : u.blkaddr < u.cd.blockcount
    · rw [beginTransfer_of_inRange h]; exact ⟨rfl, rfl, rfl⟩
    · rw [beginTransfer_of_outOfRange h]; exact ⟨rfl, rfl, rfl⟩
  cases op with
  | nop => exact ⟨rfl, rfl, fun h => absurd rfl h⟩
  | init => exact ⟨rfl, rfl, fun _ => rfl⟩
  | read =>
    obtain ⟨htrace, hcs, hctl⟩ := htransfer .cmd17 opcReadSingle (latchStart .read s)
    exact ⟨htrace, hcs, fun _ => hctl⟩
  | write =>
    obtain ⟨htrace, hcs, hctl⟩ := htransfer .cmd24 opcWriteSingle (latchStart .write s)
    exact ⟨htrace, hcs, fun _ => hctl⟩

theorem storeHostReg_bus (r : HostReg) (v : U32) (s : State) :
    (storeHostReg r v s).trace = s.trace ∧ (storeHostReg r v s).cs = s.cs ∧ (storeHostReg r v s).ctl = s.ctl := by
  cases r <;> exact ⟨rfl, rfl, rfl⟩

end Sys2Proof.Machine

namespace Sys2Proof

open Machine

/-- Settles O57: the controller's own step makes one event or none, every other kind none; at rest its own step is none. -/
theorem oneBusEventAtMostPerStep : Obligations.OneBusEventAtMostPerStep := by
  unfold Obligations.OneBusEventAtMostPerStep
  intro s t hstep
  refine ⟨?events, fun hctl hin => ?rest⟩
  case events =>
    cases step_kind hstep with
    | own i r ht =>
      obtain ⟨e, hmove⟩ := exists_busMove_moveFrom (s := withPort i r s.draws s.stalled s) rfl
      have htrace : t.trace = e.toList ++ s.trace := by rw [ht]; exact hmove.trace
      cases e with
      | none => exact .inl htrace
      | some e => exact .inr (.inl ⟨e, htrace⟩)
    | port i r d b ht => exact .inl (by rw [ht]; rfl)
    | store r v i _ ht => exact .inl (by rw [ht]; exact (storeHostReg_bus r v _).1)
    | storeByte k v rest _ _ ht => exact .inl (by rw [ht]; rfl)
    | start op v rest _ _ _ _ ht => exact .inl (by rw [ht]; exact (launch_latchStart_bus op _).1)
    | reset rest hin ht => exact .inr (.inr ⟨by rw [hin]; rfl, by rw [ht]; rfl⟩)
  case rest =>
    have hmove : step s = runTurn (ownTurn s) := by simp only [step, nextTurn, hin]
    rw [runTurn_ownTurn_next (hmove.symm.trans hstep), hctl, moveFrom]

/-- Settles O56: at rest the controller's own step is none, and the host's actions and reset make no event. -/
theorem noBusEventBetweenOperations : Obligations.NoBusEventBetweenOperations := by
  unfold Obligations.NoBusEventBetweenOperations
  intro s t hinv hrest hstep
  have hctl : s.ctl = .idle := by
    have := hinv.busyCtl
    rw [hrest] at this
    simpa using this
  have hcs : s.cs = false := by rw [hinv.csCtl, hctl]; rfl
  cases step_kind hstep with
  | own i r ht => rw [hctl] at ht; exact ⟨by rw [ht]; exact hcs, .inl (by rw [ht]; rfl)⟩
  | port i r d b ht => exact ⟨by rw [ht]; exact hcs, .inl (by rw [ht]; rfl)⟩
  | store r v i _ ht =>
    obtain ⟨htrace, hc, -⟩ := storeHostReg_bus r v (withPort i s.rdata s.draws s.stalled s)
    exact ⟨by rw [ht]; exact hc.trans hcs, .inl (by rw [ht]; exact htrace)⟩
  | storeByte k v rest _ _ ht => exact ⟨by rw [ht]; exact hcs, .inl (by rw [ht]; rfl)⟩
  | start op v rest _ _ _ _ ht =>
    obtain ⟨htrace, hc, -⟩ := launch_latchStart_bus op (withPort rest s.rdata s.draws s.stalled s)
    exact ⟨by rw [ht]; exact hc.trans hcs, .inl (by rw [ht]; exact htrace)⟩
  | reset rest hin ht => exact ⟨by rw [ht]; rfl, .inr ⟨by rw [hin]; rfl, by rw [ht]; rfl⟩⟩

end Sys2Proof
end

section
/-! The place of an operation: what `coherent` says at a control point, and how phase, command and operation go on from
there. -/

namespace Sys2Proof.Machine

/-! ## Phases -/

theorem phaseEdge_refl (p : Phase) : phaseEdge p p = true := by simp [phaseEdge]

theorem Command.phase_resting (c : Command) : c.phase.resting = false := by cases c <;> rfl

/-! ## Which command may follow -/

/-- A command that may follow is the one called, in its own operation, and its phase is the next. -/
theorem mayFollow_spec {op : HostOp} {p : Phase} {c : Command} {next : Except Reject Instr}
    (h : mayFollow op p c next = true) :
    op = c.op ∧ p.resting = false ∧ phaseEdge p c.phase = true ∧ ∃ i, next = .ok i ∧ commandOfInstr i = some c := by
  unfold mayFollow at h
  split at h
  case h_10 => cases h
  case h_3 =>
    simp only [Bool.and_eq_true, Bool.or_eq_true, beq_iff_eq] at h
    obtain ⟨⟨rfl, rfl⟩, rfl | rfl⟩ := h <;> exact ⟨rfl, rfl, rfl, _, rfl, rfl⟩
  all_goals
    simp only [Bool.and_eq_true, beq_iff_eq] at h
    obtain ⟨⟨rfl, rfl⟩, rfl⟩ := h
    exact ⟨rfl, rfl, rfl, _, rfl, rfl⟩

/-- Where a command may follow, FRAME holds the one called. -/
theorem commandToBegin_of_mayFollow {s : State} {op : HostOp} {p : Phase}
    (h : mayFollow op p s.cmd (decodeCommand s.frame) = true) : commandToBegin s = s.cmd := by
  obtain ⟨-, -, -, i, hdecode, hi⟩ := mayFollow_spec h
  simp [commandToBegin, hdecode, hi]

theorem commandOf_readSingle (a : U32) : commandOf opcReadSingle a = .ok (.cmd17 a) := rfl
theorem commandOf_writeSingle (a : U32) : commandOf opcWriteSingle a = .ok (.cmd24 a) := rfl

/-! ## Where a transaction may end -/

/-- The outcomes an operation may end with (R140, R160, R170). -/
def outcomes : HostOp → List (Option ErrorKind)
  | .nop => []
  | .init => [none, some .commandRejected, some .busyTimeout, some .timeout, some .tokenTimeout]
  | .read =>
    [none, some .busyTimeout, some .commandRejected, some .tokenTimeout, some .inconsistent, some .crcMismatch]
  | .write => [none, some .busyTimeout, some .commandRejected, some .writeRejected]

/-- An error inside a transaction is one of the operation's own, and the phase may fail. -/
theorem raisedAt_spec {c : Command} {p : Phase} {e : ErrorKind} (h : raisedAt c p e = true) :
    some e ∈ outcomes c.op ∧ p.resting = false ∧ phaseEdge p .failed = true := by
  cases e <;> simp only [raisedAt, Bool.and_eq_true, Bool.or_eq_true, beq_iff_eq, Bool.false_eq_true] at h
  case commandRejected => obtain ⟨rfl, rfl⟩ | ⟨rfl | rfl, rfl⟩ := h <;> decide
  case tokenTimeout => obtain ⟨rfl, rfl⟩ | ⟨rfl, rfl⟩ := h <;> decide
  case busyTimeout =>
    obtain ⟨-, rfl⟩ | ⟨rfl, rfl⟩ := h
    · cases c <;> decide
    · decide
  all_goals obtain ⟨rfl, rfl⟩ := h; decide

theorem endsAt_resting {c : Command} {p : Phase} {e : Option ErrorKind} (h : endsAt c p e = true) :
    p.resting = false := by
  cases e with
  | some k => exact (raisedAt_spec h).2.1
  | none =>
    obtain rfl : p = c.endPhase := by simpa [endsAt] using h
    cases c <;> rfl

/-! ## A controller in an operation -/

/-- Where the controller is in an operation its phase is none of those at rest (R25). -/
theorem phase_resting_of_coherent {s : State} (hplace : coherent s = true) (hbusy : s.ctl ≠ .idle) :
    s.phase.resting = false := by
  cases hctl : s.ctl <;> simp only [coherent, hctl, Bool.and_eq_true, Bool.or_eq_true, beq_iff_eq] at hplace
  case idle => exact absurd hctl hbusy
  case encode | command => obtain ⟨-, hrest, -⟩ := mayFollow_spec hplace; exact hrest
  case readyTime | readyPoll | readyTest =>
    obtain ⟨⟨-, hphase⟩, -⟩ := hplace; rw [hphase]; exact s.cmd.phase_resting
  case frame | frameFlush | waitR1 | afterR1 => obtain ⟨-, hphase⟩ := hplace; rw [hphase]; exact s.cmd.phase_resting
  case reply => obtain ⟨-, hphase⟩ := hplace; rw [hphase]; exact s.cmd.phase_resting
  case waitToken => obtain ⟨-, ⟨-, hphase⟩ | ⟨-, hphase⟩⟩ := hplace <;> rw [hphase] <;> rfl
  case release | flush => obtain ⟨-, hends⟩ := hplace; exact endsAt_resting hends
  case raiseBaud => obtain ⟨-, hphase | hphase⟩ := hplace <;> rw [hphase] <;> rfl
  all_goals obtain ⟨-, hphase⟩ := hplace; rw [hphase]; rfl

/-! ## What a step of an operation comes to -/

/-- What COMPLETION alone writes, the descriptor, and the operation. -/
def status (s : State) : Bool × Bool × Bool × Option ErrorKind × Bool × Descriptor × HostOp :=
  (s.busy, s.done, s.err, s.errcode, s.inited, s.cd, s.curOp)

/-- What the controller's own step comes to while an operation is in flight: the operation goes on, or it ends with an outcome
of its own. -/
inductive Progress (s t : State) : Prop where
  | goesOn (hctl : t.ctl ≠ .idle) (hstatus : status t = status s) (hedge : phaseEdge s.phase t.phase = true)
      (hplace : coherent t = true) (hverified : verified t)
  | ends (e : Option ErrorKind) (u : State) (ht : t = complete e u) (hphase : u.phase = s.phase)
      (hfail : u.failPhase = s.failPhase) (hout : e ∈ outcomes s.curOp)
      (hedge : phaseEdge s.phase (if e.isSome then .failed else .done) = true)
      (hcd : (s.inited = false → s.cd = Descriptor.zero) → u.inited = false → u.cd = Descriptor.zero)
      (hread : s.curOp = .read → e = none → u.burstCount = 512 ∧ u.rcrc = Config.crc16 (bufBytes u))

/-- A step that stays in its phase. -/
theorem Progress.stays {s t : State} (hctl : t.ctl ≠ .idle) (hstatus : status t = status s) (hphase : t.phase = s.phase)
    (hplace : coherent t = true) (hverified : verified t) : Progress s t :=
  .goesOn hctl hstatus (by rw [hphase]; exact phaseEdge_refl _) hplace hverified

/-- An error raised inside a transaction goes to RELEASE, where the command and phase allow it. -/
theorem Progress.raises {s u : State} {k : ErrorKind} (hcs : u.cs = true) (hstatus : status u = status s)
    (hphase : u.phase = s.phase) (hop : u.curOp = u.cmd.op) (hraised : raisedAt u.cmd u.phase k = true) :
    Progress s (raise k u) := by
  rw [raise_of_cs hcs]
  exact .stays (by simp) hstatus hphase (by simp [coherent, endsAt, hop, hraised]) trivial

/-- An error raised outside a transaction completes INIT at once. -/
theorem Progress.raises_outside {s u : State} {k : ErrorKind} (hcs : u.cs = false) (hstatus : status u = status s)
    (hphase : u.phase = s.phase) (hfail : u.failPhase = s.failPhase) (hop : s.curOp = .init)
    (hout : some k ∈ outcomes .init) (hedge : phaseEdge s.phase .failed = true) : Progress s (raise k u) := by
  simp only [status, Prod.mk.injEq] at hstatus
  obtain ⟨-, -, -, -, hinited, hcd, -⟩ := hstatus
  refine .ends (some k) u (raise_of_not_cs hcs) hphase hfail (hop ▸ hout) hedge ?_ ?_
  · rw [hinited, hcd]; exact id
  · rintro - h; cases h

end Sys2Proof.Machine
end

section
/-! The controller's own step from each control point: the operation goes on in its place, or it ends. -/

namespace Sys2Proof.Machine

section
variable {s : State}

/-! ## Calls and the head of a command phase -/

/-- Calling a command that may follow, in the phase as it stands. -/
theorem Progress.calls {u : State} {c : Command} {o : BitVec 6} {a : U32} (hstatus : status u = status s)
    (hphase : u.phase = s.phase) (hfollow : mayFollow u.curOp u.phase c (commandOf o a) = true) :
    Progress s (callCommand c o a u) :=
  .stays (by simp) hstatus hphase hfollow trivial

/-- The head of a command phase: FRAME holds the command called, whose phase is the next (R130). -/
theorem progress_command (hplace : mayFollow s.curOp s.phase s.cmd (decodeCommand s.frame) = true) :
    Progress s (beginCommand (commandToBegin s) s) := by
  obtain ⟨hop, -, hedge, -⟩ := mayFollow_spec hplace
  rw [commandToBegin_of_mayFollow hplace, beginCommand_eq]
  cases hskip : skipReady s.cmd <;> simp only [Bool.false_eq_true, if_true, if_false]
  · exact .goesOn (by simp) rfl hedge (by simp [coherent, hop, hskip]) trivial
  · exact .goesOn (by simp) rfl hedge (by simp [coherent, hop]) trivial

/-! ## After WAIT_R1 -/

/-- The caller of a command phase goes on in the phase of the command: with the reply or without, to the CSD, or to the test of
READ and WRITE (R132, R147, R160, R170). -/
theorem progress_afterR1 (hcs : s.cs = true) (hop : s.curOp = s.cmd.op) (hphase : s.phase = s.cmd.phase) :
    Progress s (afterR1 s) := by
  cases hcmd : s.cmd <;> rw [hcmd] at hop hphase <;> simp only [afterR1, hcmd]
  case cmd0 | cmd55 | acmd41 | cmd16 =>
    exact .stays nofun rfl rfl (by simp [noReply, coherent, endsAt, hcmd, hop, hphase, Command.endPhase, Command.phase])
      (by simp [noReply, verified, hcmd])
  case cmd8 | cmd58 =>
    exact .stays nofun rfl rfl (by simp [startReply, coherent, hcmd, hop, hphase, Command.op]) trivial
  case cmd9 =>
    unfold csdAfterR1
    split
    · exact .stays nofun rfl rfl (by simp [startToken, coherent, hcmd, hop, hphase, Command.phase]) trivial
    · exact .raises hcs rfl rfl (by rw [hcmd]; exact hop) (by simp [raisedAt, hcmd, hphase, Command.phase])
  case cmd17 | cmd24 =>
    exact .goesOn nofun rfl (by rw [hphase]; rfl) (by simp [r1Received, coherent, hcmd, hop]) trivial

theorem testR1_of_read (h : s.cmd = .cmd17) : testR1 s = readTestR1 s := by simp [testR1, h]

theorem testR1_of_write (h : s.cmd = .cmd24) : testR1 s = writeTestR1 s := by simp [testR1, h]

/-- READ and WRITE test `r1` (R162, R172). -/
theorem progress_testR1 (hcs : s.cs = true) (hop : s.curOp = s.cmd.op) (hcmd : s.cmd = .cmd17 ∨ s.cmd = .cmd24)
    (hphase : s.phase = .r1Received) : Progress s (testR1 s) := by
  have hraise : Progress s (raise .commandRejected s) :=
    .raises hcs rfl rfl hop (by obtain h | h := hcmd <;> simp [raisedAt, h, hphase])
  obtain hcmd | hcmd := hcmd
  · rw [testR1_of_read hcmd, readTestR1]
    split
    · exact .goesOn nofun rfl (by rw [hphase]; rfl) (by simp [startToken, coherent, hop, hcmd]) trivial
    · exact hraise
  · rw [testR1_of_write hcmd, writeTestR1]
    split
    · exact .goesOn nofun rfl (by rw [hphase]; rfl) (by simp [coherent, hop, hcmd, Command.op]) trivial
    · exact hraise

/-- The token is followed by the CSD for command 9, by the payload for command 17 (R147, R163). -/
theorem progress_tokenFound (hop : s.curOp = s.cmd.op)
    (hcmd : s.cmd = .cmd9 ∧ s.phase = .iCsd ∨ s.cmd = .cmd17 ∧ s.phase = .tokenWait) :
    Progress s (tokenFound (pollCounted s)) := by
  obtain ⟨hcmd, hphase⟩ | ⟨hcmd, hphase⟩ := hcmd <;> rw [hcmd] at hop
  · have h9 : (pollCounted s).cmd = .cmd9 := hcmd
    rw [tokenFound, if_pos h9]
    exact .stays nofun rfl rfl (by simp [pollCounted, coherent, hop, hcmd, hphase, Command.op]) trivial
  · have h9 : (pollCounted s).cmd ≠ .cmd9 := by simp [pollCounted, hcmd]
    rw [tokenFound, if_neg h9]
    exact .goesOn nofun rfl (by rw [hphase]; rfl) (by simp [pollCounted, coherent, hop, hcmd, Command.op]) trivial

/-! ## The ends of a transaction -/

/-- The integrity tests of READ (R165): RELEASE follows without an error only on a matching check value. -/
theorem progress_checkBlock (hcs : s.cs = true) (hop : s.curOp = .read) (hcmd : s.cmd = .cmd17)
    (hphase : s.phase = .crcCheck) (hverified : s.rcrc = s.wireCrc) : Progress s (checkBlock s) := by
  have hraise (k : ErrorKind) (hk : raisedAt .cmd17 .crcCheck k = true) : Progress s (raise k s) :=
    .raises hcs rfl rfl (by rw [hcmd]; exact hop) (by rw [hcmd, hphase]; exact hk)
  obtain ⟨-, h⟩ | ⟨-, -, h⟩ | ⟨hcount, hcrc, h⟩ := checkBlock_cases s <;> rw [h]
  · exact hraise _ rfl
  · exact hraise _ rfl
  · refine .stays nofun rfl rfl ?_ fun _ => ⟨hcount, hverified.trans hcrc.symm⟩
    simp [coherent, endsAt, hop, hcmd, hphase, Command.op, Command.endPhase]

/-- An exchange before a step of progress is part of it. -/
theorem Progress.of_exchange {t : State} {tx : Byte} (h : Progress (exchange tx s) t) : Progress s t := by
  cases h with
  | goesOn hctl hstatus hedge hplace hverified => exact .goesOn hctl hstatus hedge hplace hverified
  | ends e u ht hphase hfail hout hedge hcd hread => exact .ends e u ht hphase hfail hout hedge hcd hread

/-- What follows a transaction of INIT: the next command, another point of the sequence, or a rejection (R143 to R149). -/
theorem progress_afterTransaction_of_init (hcs : s.cs = false) (hop : s.curOp = .init) (hcmd : s.cmd.op = .init)
    (hphase : s.phase = s.cmd.endPhase) : Progress s (afterTransaction s) := by
  have hraise {u : State} (hcsu : u.cs = false) (hstatus : status u = status s) (hpu : u.phase = s.phase)
      (hfail : u.failPhase = s.failPhase) (hedge : phaseEdge s.phase .failed = true) :
      Progress s (raise .commandRejected u) :=
    .raises_outside hcsu hstatus hpu hfail hop (by decide) hedge
  cases hc : s.cmd <;> rw [hc] at hcmd hphase <;> simp only [afterTransaction, hc]
  case cmd0 =>
    unfold afterCmd0; split
    · exact hraise hcs rfl rfl rfl (by rw [hphase]; rfl)
    · exact .calls rfl rfl (by rw [hop, hphase]; rfl)
  case cmd8 =>
    unfold afterCmd8; split
    · exact hraise hcs rfl rfl rfl (by rw [hphase]; rfl)
    · exact .stays nofun rfl rfl (by simp [coherent, hop, hphase, Command.endPhase]) trivial
  case cmd55 => exact .calls rfl rfl (by rw [hop, hphase]; rfl)
  case acmd41 =>
    unfold afterAcmd41; split
    · exact .calls rfl rfl (by rw [hop, hphase]; rfl)
    · exact .stays nofun rfl rfl (by simp [coherent, hop, hc, hphase, Command.endPhase]) trivial
  case cmd58 =>
    unfold afterCmd58; split
    · exact .calls rfl rfl (by show mayFollow s.curOp s.phase _ _ = true; rw [hop, hphase]; rfl)
    · exact hraise hcs rfl rfl rfl (by rw [hphase]; rfl)
  case cmd9 =>
    unfold afterCmd9; split
    · exact .stays nofun rfl rfl (by simp [coherent, hop, hphase, Command.endPhase]) trivial
    · exact .calls rfl rfl (by show mayFollow s.curOp s.phase _ _ = true; rw [hop, hphase]; rfl)
  case cmd16 =>
    unfold afterCmd16; split
    · exact .stays nofun rfl rfl (by simp [coherent, hop, hphase, Command.endPhase]) trivial
    · exact hraise hcs rfl rfl rfl (by rw [hphase]; rfl)
  case cmd17 | cmd24 => cases hcmd

/-- After RELEASE: the failure exit completes, a transfer completes with `OK`, INIT goes on (R131, R165, R176, R196). -/
theorem progress_flushRelease {e : Option ErrorKind} (hcs : s.cs = false) (hop : s.curOp = s.cmd.op)
    (hends : endsAt s.cmd s.phase e = true)
    (hverified : e = none → s.cmd = .cmd17 → s.burstCount = 512 ∧ s.rcrc = Config.crc16 (bufBytes s)) :
    Progress s (flushRelease e s) := by
  cases e with
  | some k =>
    obtain ⟨hout, -, hedge⟩ := raisedAt_spec hends
    exact .ends (some k) (flushFailure k s) rfl rfl rfl (by rw [hop]; exact hout) hedge id nofun
  | none =>
    have hphase : s.phase = s.cmd.endPhase := by simpa [endsAt] using hends
    obtain hinit | hcmd | hcmd : s.cmd.op = .init ∨ s.cmd = .cmd17 ∨ s.cmd = .cmd24 := by cases s.cmd <;> decide
    · exact (progress_afterTransaction_of_init (s := exchange idleByte s) hcs (hop.trans hinit) hinit hphase).of_exchange
    · have hdone : flushRelease none s = complete none (exchange idleByte s) := by
        simp [flushRelease, afterTransaction, hcmd]
      rw [hcmd] at hop hphase
      exact .ends none _ hdone rfl rfl (by rw [hop]; decide) (by rw [hphase]; rfl) id fun _ _ => hverified rfl hcmd
    · have hdone : flushRelease none s = complete none (exchange idleByte s) := by
        simp [flushRelease, afterTransaction, hcmd]
      rw [hcmd] at hop hphase
      exact .ends none _ hdone rfl rfl (by rw [hop]; decide) (by rw [hphase]; rfl) id
        fun hread => by rw [hop] at hread; cases hread

/-! ## Every control point -/

/-- From a state with the invariant's place, the controller's own step makes progress at every control point but rest. -/
theorem progress_moveFrom {c : Ctl} (hctl : s.ctl = c) (hbusy : c ≠ .idle) (hcs : CsPlaced s) (hplace : coherent s = true)
    (hverified : verified s) : Progress s (moveFrom c s) := by
  have hin : s.cs = c.inTransaction := hctl ▸ hcs
  cases c <;> simp only [coherent, hctl, Bool.and_eq_true, Bool.or_eq_true, beq_iff_eq, Bool.not_eq_true'] at hplace
  case idle => exact absurd rfl hbusy
  case initBaud =>
    obtain ⟨hop, hphase⟩ := hplace
    exact .goesOn nofun rfl (by rw [hphase]; rfl) (by simp [moveFrom, initBaud, coherent, hop]) trivial
  case sync k =>
    obtain ⟨hop, hphase⟩ := hplace
    obtain ⟨-, h⟩ | ⟨-, h⟩ := syncStep_cases k s <;> rw [moveFrom, h]
    · exact .stays nofun rfl rfl (by simp [coherent, hop, hphase]) trivial
    · exact .calls rfl rfl (by rw [hop, hphase]; rfl)
  case initTime =>
    obtain ⟨hop, hphase⟩ := hplace
    exact .calls rfl rfl (by show mayFollow s.curOp s.phase _ _ = true; rw [hop, hphase]; rfl)
  case encode o a =>
    exact .stays nofun rfl rfl (by simp [moveFrom, coherent, decodeCommand_encodeFrame, hplace]) trivial
  case command => exact progress_command hplace
  case readyTime =>
    exact .stays nofun rfl rfl (by simp [moveFrom, startReady, coherent, hplace]) trivial
  case readyPoll =>
    rw [moveFrom]; split
    · exact .stays nofun rfl rfl (by simp [pollReady, coherent, hplace]) trivial
    · exact .stays nofun rfl rfl (by simp [pollReady, readyBusy, coherent, hplace]) trivial
  case readyTest =>
    obtain ⟨⟨hop, hphase⟩, hskip⟩ := hplace
    obtain ⟨-, h⟩ | ⟨-, h⟩ := testReady_cases s <;> rw [moveFrom, h]
    · exact .raises hin rfl rfl hop (by simp [raisedAt, hphase, hskip])
    · exact .stays nofun rfl rfl (by simp [coherent, hop, hphase, hskip]) trivial
  case frame k =>
    rw [moveFrom, sendFrame]
    split <;> exact .stays nofun rfl rfl (by simp [coherent, hplace]) trivial
  case frameFlush => exact .stays nofun rfl rfl (by simp [moveFrom, flushFrame, startR1, coherent, hplace]) trivial
  case waitR1 =>
    rw [moveFrom]
    split
    · split
      · exact .stays (by simp [pollR1, hctl]) rfl rfl (by simp [pollR1, coherent, hctl, hplace]) (by simp [pollR1, verified, hctl])
      · exact .stays nofun rfl rfl (by simp [endR1, pollR1, coherent, hplace]) trivial
    · exact .stays nofun rfl rfl (by simp [endR1, coherent, hplace]) trivial
  case afterR1 => obtain ⟨hop, hphase⟩ := hplace; exact progress_afterR1 hin hop hphase
  case r1Test =>
    obtain ⟨⟨hop, hcmd⟩, hphase⟩ := hplace
    exact progress_testR1 hin hop hcmd hphase
  case reply k =>
    obtain ⟨⟨hop, hcmd⟩, hphase⟩ := hplace
    rw [moveFrom, recvReply]
    split
    · obtain hcmd | hcmd := hcmd <;> rw [hcmd] at hphase <;>
        exact .stays nofun rfl rfl (by simp [coherent, endsAt, hop, hcmd, hphase, Command.op, Command.endPhase, Command.phase])
          (by simp [verified, hcmd])
    · exact .stays nofun rfl rfl (by simp [coherent, hop, hcmd, hphase]) trivial
  case waitToken =>
    obtain ⟨hop, hcmd⟩ := hplace
    rw [moveFrom]
    split
    · split
      · exact progress_tokenFound hop hcmd
      · exact .stays (by simp [pollCounted, hctl]) rfl rfl (by simp [pollCounted, coherent, hctl, hop, hcmd])
          (by simp [pollCounted, verified, hctl])
    · exact .raises hin rfl rfl hop (by obtain ⟨h, hp⟩ | ⟨h, hp⟩ := hcmd <;> simp [raisedAt, h, hp])
  case csd k =>
    obtain ⟨⟨hop, hcmd⟩, hphase⟩ := hplace
    rw [moveFrom, recvCsd]
    split <;> exact .stays nofun rfl rfl (by simp [coherent, hop, hcmd, hphase]) trivial
  case csdCheck k =>
    obtain ⟨⟨hop, hcmd⟩, hphase⟩ := hplace
    rw [moveFrom, recvCsdCheck]
    split
    · exact .stays nofun rfl rfl (by simp [coherent, endsAt, hop, hcmd, hphase, Command.op, Command.endPhase])
        (by simp [verified, hcmd])
    · exact .stays nofun rfl rfl (by simp [coherent, hop, hcmd, hphase]) trivial
  case burst => exact .stays nofun rfl rfl (by simp [moveFrom, startBurst, coherent, hplace]) trivial
  case payloadIn k =>
    obtain ⟨-, h⟩ | ⟨-, h⟩ := recvPayload_cases k s <;> rw [moveFrom, h] <;>
      exact .stays nofun rfl rfl (by simp [coherent, hplace]) trivial
  case checkInHi => exact .stays nofun rfl rfl (by simp [moveFrom, recvCheckHi, coherent, hplace]) trivial
  case checkInLo =>
    obtain ⟨⟨hop, hcmd⟩, hphase⟩ := hplace
    exact .goesOn nofun rfl (by rw [hphase]; rfl) (by simp [moveFrom, recvCheckLo, coherent, hop, hcmd]) rfl
  case crcCheck =>
    obtain ⟨⟨hop, hcmd⟩, hphase⟩ := hplace
    exact progress_checkBlock hin hop hcmd hphase (by simpa only [verified, hctl] using hverified)
  case token =>
    obtain ⟨⟨hop, hcmd⟩, hphase⟩ := hplace
    exact .goesOn nofun rfl (by rw [hphase]; rfl) (by simp [moveFrom, sendToken, coherent, hop, hcmd]) trivial
  case payloadOut k =>
    rw [moveFrom, sendPayload]
    split <;> exact .stays nofun rfl rfl (by simp [coherent, hplace]) trivial
  case checkOutHi => exact .stays nofun rfl rfl (by simp [moveFrom, sendCheckHi, coherent, hplace]) trivial
  case checkOutLo =>
    obtain ⟨⟨hop, hcmd⟩, hphase⟩ := hplace
    exact .goesOn nofun rfl (by rw [hphase]; rfl) (by simp [moveFrom, sendCheckLo, coherent, hop, hcmd]) trivial
  case response =>
    obtain ⟨⟨hop, hcmd⟩, hphase⟩ := hplace
    rw [moveFrom]
    split
    · exact .goesOn nofun rfl (by rw [hphase]; rfl) (by simp [startProg, coherent, hop, hcmd]) trivial
    · exact .raises hin rfl rfl (by simp [hop, hcmd, Command.op]) (by simp [raisedAt, hcmd, hphase])
  case waitProg =>
    obtain ⟨⟨hop, hcmd⟩, hphase⟩ := hplace
    rw [moveFrom]
    split
    · split
      · exact .stays nofun rfl rfl
          (by simp [pollCounted, coherent, endsAt, hop, hcmd, hphase, Command.op, Command.endPhase])
          (by simp [pollCounted, verified, hcmd])
      · exact .stays (by simp [pollCounted, hctl]) rfl rfl (by simp [pollCounted, coherent, hctl, hop, hcmd, hphase])
          (by simp [pollCounted, verified, hctl])
    · exact .raises hin rfl rfl (by rw [hop, hcmd]; rfl) (by simp [raisedAt, hcmd, hphase])
  case release e =>
    rw [verified, hctl] at hverified
    exact .stays nofun rfl rfl (by simp [moveFrom, releaseCs, coherent, hplace]) (by cases e; exacts [hverified, trivial])
  case flush e =>
    obtain ⟨hop, hends⟩ := hplace
    exact progress_flushRelease hin hop hends (by rintro rfl; simpa only [verified, hctl] using hverified)
  case budget =>
    obtain ⟨⟨hop, hcmd⟩, hphase⟩ := hplace
    obtain ⟨-, h⟩ | ⟨-, h⟩ := testBudget_cases s <;> rw [moveFrom, h]
    · exact .raises_outside hin rfl rfl rfl hop (by decide) (by rw [hphase]; rfl)
    · exact .calls rfl rfl (by simp [hop, hphase]; rfl)
  case raiseBaud =>
    obtain ⟨hop, hphase⟩ := hplace
    exact .goesOn nofun rfl (by obtain h | h := hphase <;> rw [h] <;> rfl) (by simp [moveFrom, raiseBaud, coherent, hop]) trivial
  case commit =>
    obtain ⟨hop, hphase⟩ := hplace
    exact .ends none { s with cd := s.w, inited := true } rfl rfl rfl (by rw [hop]; decide) (by rw [hphase]; rfl)
      (fun _ h => by cases h) (fun hread => by rw [hop] at hread; cases hread)

end

end Sys2Proof.Machine
end

section
/-! The invariant: every kind of a step keeps it, so it holds in every run from reset; and what it says of the end of an
operation. -/

namespace Sys2Proof.Machine

section
variable {s : State}

/-! ## Rest and operation -/

theorem Inv.ctl_idle_of_rest (h : Inv s) (hrest : s.busy = false) : s.ctl = .idle := by
  have hbusy := h.busyCtl
  rw [hrest] at hbusy
  simpa using hbusy

theorem Inv.ctl_ne_idle_of_busy (h : Inv s) (hbusy : s.busy = true) : s.ctl ≠ .idle := by
  have hctl := h.busyCtl
  rw [hbusy] at hctl
  simpa using hctl

theorem Inv.cs_of_rest (h : Inv s) (hrest : s.busy = false) : s.cs = false := by
  rw [h.csCtl, h.ctl_idle_of_rest hrest]; rfl

/-! ## The controller's own step -/

theorem bufWf_moveFrom (c : Ctl) (h : Memory.wf s.buf = true) : Memory.wf (moveFrom c s).buf = true := by
  by_cases hpayload : ∃ k, c = .payloadIn k
  · obtain ⟨k, rfl⟩ := hpayload
    obtain ⟨-, hk⟩ | ⟨-, hk⟩ := recvPayload_cases k s <;> rw [moveFrom, hk]
    · exact Memory.wf_set _ _ h
    · exact h
  · by_cases hcommit : c = .commit
    · rw [hcommit]; exact h
    · obtain ⟨-, hbuf, -⟩ := kept_eq_iff.mp (kept_moveFrom s (not_exists.mp hpayload) hcommit)
      rw [hbuf]; exact h

theorem Inv.progress (h : Inv s) (hbusy : s.ctl ≠ .idle) : Progress s (moveFrom s.ctl s) :=
  progress_moveFrom rfl hbusy h.csCtl h.place h.crcOk

/-- The controller's own step keeps the invariant: the bus side by its one event, the rest as the operation goes on or ends. -/
theorem Inv.moveFrom (h : Inv s) : Inv (moveFrom s.ctl s) := by
  by_cases hidle : s.ctl = .idle
  · rw [hidle]; exact h
  obtain ⟨ev, hmove⟩ := exists_busMove_moveFrom (s := s) rfl
  obtain ⟨htraceCs, htraceOk⟩ := hmove.bracketed h.csCtl h.traceCsCs h.traceOk
  have hcsCtl := hmove.placed h.csCtl
  have hbufWf := bufWf_moveFrom s.ctl h.bufWf
  have hprogress := h.progress hidle
  revert hprogress htraceCs htraceOk hcsCtl hbufWf
  generalize Machine.moveFrom s.ctl s = t
  intro htraceCs htraceOk hcsCtl hbufWf hprogress
  cases hprogress with
  | goesOn hctl hstatus hedge hplace hverified =>
    simp only [status, Prod.mk.injEq] at hstatus
    obtain ⟨hbusy, hdone, herr, hcode, hinited, hcd, hop⟩ := hstatus
    have hsbusy : s.busy = true := by rw [h.busyCtl]; simpa using hidle
    exact {
      bufWf := hbufWf
      busyCtl := by rw [hbusy, hsbusy]; simpa using hctl
      busyPhase := by rw [hbusy, hsbusy, phase_resting_of_coherent hplace hctl]; rfl
      errCode := by rw [herr, hcode]; exact h.errCode
      busyClear := by rw [hbusy, hdone, hcode]; exact h.busyClear
      csCtl := hcsCtl
      traceCsCs := htraceCs
      traceOk := htraceOk
      place := hplace
      cdZero := by rw [hinited, hcd]; exact h.cdZero
      initClear := by rw [hbusy, hop, hinited]; exact h.initClear
      crcOk := hverified }
  | ends e u ht hphase hfail hout hedge hcd hread =>
    subst ht
    exact {
      bufWf := hbufWf
      busyCtl := by simp
      busyPhase := by cases e <;> rfl
      errCode := rfl
      busyClear := nofun
      csCtl := hcsCtl
      traceCsCs := htraceCs
      traceOk := htraceOk
      place := by cases e <;> rfl
      cdZero := hcd h.cdZero
      initClear := nofun
      crcOk := trivial }

/-! ## The host and the environment -/

theorem Inv.withPort (i : List Input) (r : U32) (d : Nat) (b : Bool) (h : Inv s) : Inv (withPort i r d b s) :=
  { h with }

/-- The invariant says nothing of the configuration. -/
theorem Inv.storeHostReg (r : HostReg) (v : U32) (h : Inv s) : Inv (storeHostReg r v s) := by
  cases r <;> exact { h with }

/-- A buffer write at rest touches no READ in flight. -/
theorem Inv.setBufByte (k : BitVec 9) (v : Byte) (h : Inv s) (hrest : s.busy = false) : Inv (setBufByte s k v) :=
  { h with
    bufWf := Memory.wf_set k v h.bufWf
    crcOk := by rw [verified, setBufByte_ctl, h.ctl_idle_of_rest hrest]; trivial }

/-- START of INIT clears the descriptor, so none is left of an earlier INIT. -/
theorem Inv.start_init (h : Inv s) (hrest : s.busy = false) : Inv (beginInit (latchStart .init s)) :=
  { h with
    busyCtl := rfl
    busyPhase := rfl
    errCode := rfl
    busyClear := fun _ => ⟨rfl, rfl⟩
    csCtl := h.cs_of_rest hrest
    place := rfl
    cdZero := fun _ => rfl
    initClear := fun _ _ => rfl
    crcOk := trivial }

/-- START of READ or WRITE calls its command or completes with `RangeError`. -/
theorem Inv.start_transfer {op : HostOp} {c : Command} {o : BitVec 6} (h : Inv s) (hrest : s.busy = false)
    (hop : op ≠ .init) (hcall : ∀ a, mayFollow op .commandSent c (commandOf o a) = true) :
    Inv (beginTransfer c o (latchStart op s)) := by
  by_cases hrange : s.blkaddr < s.cd.blockcount
  · rw [beginTransfer_of_inRange (s := latchStart op s) hrange]
    exact { h with
      busyCtl := rfl
      busyPhase := rfl
      errCode := rfl
      busyClear := fun _ => ⟨rfl, rfl⟩
      csCtl := h.cs_of_rest hrest
      place := hcall _
      initClear := fun _ hinit => absurd hinit hop
      crcOk := trivial }
  · rw [beginTransfer_of_outOfRange (s := latchStart op s) hrange]
    exact { h with
      busyCtl := rfl
      busyPhase := rfl
      errCode := rfl
      busyClear := nofun
      csCtl := h.cs_of_rest hrest
      place := rfl
      initClear := nofun
      crcOk := trivial }

theorem Inv.start {op : HostOp} (h : Inv s) (hrest : s.busy = false) (hop : op ≠ .nop) :
    Inv (launch (latchStart op s)) := by
  cases op with
  | nop => exact absurd rfl hop
  | init => exact h.start_init hrest
  | read => exact h.start_transfer hrest (by decide) fun _ => rfl
  | write => exact h.start_transfer hrest (by decide) fun _ => rfl

/-- Reset gives the invariant, whatever the environment has in store. -/
theorem inv_resetController (s : State) : Inv (resetController s) where
  bufWf := rfl
  busyCtl := rfl
  busyPhase := rfl
  errCode := rfl
  busyClear := nofun
  csCtl := rfl
  traceCsCs := rfl
  traceOk := rfl
  place := rfl
  cdZero := fun _ => rfl
  initClear := nofun
  crcOk := trivial

theorem inv_reset : Inv State.reset := { inv_resetController State.reset with }

/-! ## Every step and every run -/

theorem Inv.step {t : State} (h : Inv s) (hstep : step s = .next t) : Inv t := by
  cases step_kind hstep with
  | own i r ht => rw [ht]; exact (h.withPort i r s.draws s.stalled).moveFrom
  | port i r d b ht => rw [ht]; exact h.withPort i r d b
  | store r v i _ ht => rw [ht]; exact (h.withPort i s.rdata s.draws s.stalled).storeHostReg r v
  | storeByte k v rest hrest _ ht => rw [ht]; exact (h.withPort rest s.rdata s.draws s.stalled).setBufByte k v hrest
  | start op v rest hrest _ hop _ ht => rw [ht]; exact (h.withPort rest s.rdata s.draws s.stalled).start hrest hop
  | reset rest _ ht => rw [ht]; exact inv_resetController _

theorem Inv.runSteps {n : Nat} {t : State} (h : Inv s) (hrun : runSteps n s = .next t) : Inv t := by
  induction n generalizing s with
  | zero => rw [← Host.Outcome.next.inj hrun]; exact h
  | succ n ih =>
    rw [Machine.runSteps] at hrun
    cases hstep : Machine.step s with
    | next u => rw [hstep] at hrun; exact ih (h.step hstep) hrun
    | fault r => simp [hstep] at hrun
    | refused r => simp [hstep] at hrun

theorem inv_bootWith (inputs : List Input) (rx : List Byte) (times : List U32) (bursts : List (BitVec 10)) :
    Inv (bootWith inputs rx times bursts) := { inv_reset with }

/-! ## Phases and ends -/

/-- START takes the phase from rest to its operation, or to `FAILED` where the block is out of range. -/
theorem phaseEdge_start {op : HostOp} (hrest : s.phase.resting = true) (hop : op ≠ .nop) :
    phaseEdge s.phase (launch (latchStart op s)).phase = true := by
  have hedge : phaseEdge s.phase .iPrep = true ∧ phaseEdge s.phase .commandSent = true ∧
      phaseEdge s.phase .failed = true := by
    revert hrest; cases s.phase <;> decide
  obtain ⟨hprep, hsent, hfailed⟩ := hedge
  have htransfer (c : Command) (o : BitVec 6) (op : HostOp) :
      phaseEdge s.phase (beginTransfer c o (latchStart op s)).phase = true := by
    by_cases hrange : s.blkaddr < s.cd.blockcount
    · rw [beginTransfer_of_inRange (s := latchStart op s) hrange]; exact hsent
    · rw [beginTransfer_of_outOfRange (s := latchStart op s) hrange]; exact hfailed
  cases op with
  | nop => exact absurd rfl hop
  | init => exact hprep
  | read => exact htransfer ..
  | write => exact htransfer ..

/-- A step in which an operation ends is the end the controller's own step came to. -/
theorem Inv.step_ends {t : State} (h : Inv s) (hstep : Machine.step s = .next t) (hreset : s.inputs.head? ≠ some .reset)
    (hbusy : s.busy = true) (hrest : t.busy = false) :
    ∃ e u, t = complete e u ∧ u.phase = s.phase ∧ u.failPhase = s.failPhase ∧ e ∈ outcomes s.curOp ∧
      (s.curOp = .read → e = none → u.burstCount = 512 ∧ u.rcrc = Config.crc16 (bufBytes u)) := by
  cases step_kind hstep with
  | own i r ht =>
    have hport := h.withPort i r s.draws s.stalled
    cases hport.progress (hport.ctl_ne_idle_of_busy hbusy) with
    | goesOn _ hstatus _ _ _ =>
      simp only [status, Prod.mk.injEq] at hstatus
      obtain ⟨hsame, -⟩ := hstatus
      rw [ht] at hrest
      cases hbusy.symm.trans (hsame.symm.trans hrest)
    | ends e u hu hphase hfail hout _ _ hread => exact ⟨e, u, ht.trans hu, hphase, hfail, hout, hread⟩
  | port i r d b ht => rw [ht] at hrest; cases hbusy.symm.trans hrest
  | store r v i hidle _ => cases hbusy.symm.trans hidle
  | storeByte k v rest hidle _ _ => cases hbusy.symm.trans hidle
  | start op v rest hidle _ _ _ _ => cases hbusy.symm.trans hidle
  | reset rest hin _ => simp [hin] at hreset

end

end Sys2Proof.Machine

namespace Sys2Proof

open Machine

/-- Settles O46: every kind of a step keeps the invariant. -/
theorem everyStepKeepsTheInvariant : Obligations.EveryStepKeepsTheInvariant := by
  unfold Obligations.EveryStepKeepsTheInvariant
  exact fun _ _ h hstep => h.step hstep

/-- Settles O47: at rest with an empty trace each clause is true by computation. -/
theorem resetHasTheInvariant : Obligations.ResetHasTheInvariant := inv_reset

/-- Settles O50: the invariant of every run from reset has the three clauses. -/
theorem chipSelectIsReleasedOnEveryPath : Obligations.ChipSelectIsReleasedOnEveryPath := by
  unfold Obligations.ChipSelectIsReleasedOnEveryPath
  intro inputs rx times bursts n t hrun
  have h := (inv_bootWith inputs rx times bursts).runSteps hrun
  exact ⟨h.cs_of_rest, h.traceCsCs, h.traceOk⟩

/-- Settles O49: the controller's own step follows an edge by its progress, START leaves a phase of rest, and the other kinds
of a step write no phase. -/
theorem phaseFollowsItsDiagram : Obligations.PhaseFollowsItsDiagram := by
  unfold Obligations.PhaseFollowsItsDiagram
  intro s t h hstep hreset
  cases step_kind hstep with
  | own i r ht =>
    have hport := h.withPort i r s.draws s.stalled
    by_cases hidle : s.ctl = .idle
    · rw [ht, hidle]; exact phaseEdge_refl _
    · cases hport.progress hidle with
      | goesOn _ _ hedge _ _ => rw [ht]; exact hedge
      | ends e u hu _ _ _ hedge _ _ => rw [ht.trans hu, complete_phase]; exact hedge
  | port i r d b ht => rw [ht]; exact phaseEdge_refl _
  | store r v i _ ht =>
    have hphase : t.phase = s.phase := by rw [ht]; cases r <;> rfl
    rw [hphase]; exact phaseEdge_refl _
  | storeByte k v rest _ _ ht => rw [ht]; exact phaseEdge_refl _
  | start op v rest hrest _ hop _ ht =>
    have hresting : s.phase.resting = true := by have := h.busyPhase; rw [hrest] at this; simpa using this
    rw [ht]; exact phaseEdge_start (s := withPort rest s.rdata s.draws s.stalled s) hresting hop
  | reset rest hin _ => simp [hin] at hreset

/-- Settles O51: the step is a COMPLETION of the phase it was in with one of the operation's outcomes, and the invariant
afterwards has chip-select deasserted at rest. -/
theorem operationsEndWithTheirOwnOutcomes : Obligations.OperationsEndWithTheirOwnOutcomes := by
  unfold Obligations.OperationsEndWithTheirOwnOutcomes
  intro s t h hstep hreset hbusy hrest
  have hcs := (h.step hstep).cs_of_rest hrest
  obtain ⟨e, u, rfl, hphase, hfail, hout, -⟩ := h.step_ends hstep hreset hbusy hrest
  refine ⟨rfl, rfl, rfl, ?_, hcs, fun hop => ?_, fun hop => ?_, fun hop => ?_⟩
  · rw [← hphase, ← hfail]; rfl
  all_goals rw [hop] at hout; exact hout

/-- Settles O52: a READ that ends with `OK` has passed the two tests, and COMPLETION writes neither value. -/
theorem readOkMeansAVerifiedBlock : Obligations.ReadOkMeansAVerifiedBlock := by
  unfold Obligations.ReadOkMeansAVerifiedBlock
  intro s t h hstep hreset hbusy hrest hop hok
  obtain ⟨e, u, rfl, -, -, -, hread⟩ := h.step_ends hstep hreset hbusy hrest
  obtain ⟨hcount, hcrc⟩ := hread hop hok
  exact ⟨hcrc, hcount⟩

end Sys2Proof
end

section
/-! Decoding and encoding undo each other (R80 to R95), and the fixed words of the opcode table. -/

namespace Sys2Proof

open Machine

/-! ## Decoding an encoding -/

/-- The frame of a command decodes to the command its opcode and argument name. -/
theorem decode_command_encodeFrame (o : BitVec 6) (a : U32) :
    decode .command (.frame (encodeFrame o a)) = commandOf o a := decodeCommand_encodeFrame o a

theorem decode_encoder_packFrame (o : BitVec 6) (a : U32) (c : Byte) :
    decode .encoder (.frame (packFrame o a c)) = .ok (.encode o a c) := by
  simp [decode, decodeEncoder, frameMarker_packFrame, frameOpcode_packFrame, frameArg_packFrame, frameCheck_packFrame]

/-- A byte whose high bit is put before seven status bits is a valid R1 with that status (R87). -/
theorem decodeR1_append (status : BitVec 7) : decodeR1 (0#1 ++ status) = .ok (.r1 status) := by
  have hmsb : (0#1 ++ status).msb = false := BitVec.msb_append
  have hstatus : (0#1 ++ status).extractLsb' 0 7 = status := BitVec.extractLsb'_append_eq_right
  simp [decodeR1, hmsb, hstatus]

/-- The accepting pattern accepts under any upper three bits, which are kept (R91). -/
theorem decodeDataResponse_append (ignored : BitVec 3) :
    decodeDataResponse (ignored ++ dataAccepted) = .ok (.dataResponseAccepted ignored) := by
  have hlow : (ignored ++ dataAccepted).extractLsb' 0 5 = dataAccepted := BitVec.extractLsb'_append_eq_right
  have hhigh : (ignored ++ dataAccepted).extractLsb' 5 3 = ignored := BitVec.extractLsb'_append_eq_left
  simp [decodeDataResponse, hlow, hhigh]

/-- Settles O1: in each slot the fields the decoder reads off are those the encoder put there. -/
theorem decodeOfEncodeIsIdentity : Obligations.DecodeOfEncodeIsIdentity := by
  unfold Obligations.DecodeOfEncodeIsIdentity
  intro i _ slot hslot
  cases i with
  | nop | init | read | write => obtain rfl := List.mem_singleton.mp hslot; rfl
  | cmd0 | cmd8 | cmd55 | acmd41 | cmd58 | cmd9 | cmd16 =>
    obtain rfl := List.mem_singleton.mp hslot; exact decode_command_encodeFrame ..
  | cmd17 a => obtain rfl := List.mem_singleton.mp hslot; exact decode_command_encodeFrame opcReadSingle a
  | cmd24 a => obtain rfl := List.mem_singleton.mp hslot; exact decode_command_encodeFrame opcWriteSingle a
  | encode o a c => obtain rfl := List.mem_singleton.mp hslot; exact decode_encoder_packFrame o a c
  | r1 status => obtain rfl := List.mem_singleton.mp hslot; exact decodeR1_append status
  | dataStart => obtain rfl := List.mem_singleton.mp hslot; rfl
  | dataResponseAccepted ignored =>
    obtain rfl := List.mem_singleton.mp hslot; exact decodeDataResponse_append ignored
  | idle =>
    have hwaits : slot = .ready ∨ slot = .programming := by simpa [Instr.slots] using hslot
    obtain rfl | rfl := hwaits <;> rfl

/-! ## Encoding what was decoded -/

/-- The command a frame's opcode and argument name is encoded with them (R86). -/
theorem encode_of_commandOf {o : BitVec 6} {a : U32} {i : Instr} (h : commandOf o a = .ok i) :
    encode i = .frame (encodeFrame o a) := by
  unfold commandOf at h
  split at h
  case isTrue ho => cases h; rw [ho]; rfl
  split at h
  case isTrue ho => cases h; rw [ho]; rfl
  repeat
    split at h
    case isTrue hoa => obtain ⟨rfl, rfl⟩ := hoa; cases h; rfl
  cases h

/-- The commands that carry a checksum are commands 0 and 8 (R84). -/
theorem commandOf_of_crcMandatory {o : BitVec 6} {a : U32} {i : Instr} (hcrc : crcMandatory o = true)
    (h : commandOf o a = .ok i) : i = .cmd0 ∨ i = .cmd8 := by
  have ho : o = opcGoIdle ∨ o = opcSendIfCond := by simpa [crcMandatory] using hcrc
  have h0 (a : U32) : commandOf opcGoIdle a = if a = argZero then .ok .cmd0 else .error .otherFrame := by
    simp [commandOf, opcReadSingle, opcWriteSingle, opcGoIdle, opcSendIfCond, opcAppCmd, opcSdSendOpCond, opcReadOcr,
      opcSendCsd, opcSetBlocklen]
  have h8 (a : U32) : commandOf opcSendIfCond a = if a = argIfCond then .ok .cmd8 else .error .otherFrame := by
    simp [commandOf, opcReadSingle, opcWriteSingle, opcGoIdle, opcSendIfCond, opcAppCmd, opcSdSendOpCond, opcReadOcr,
      opcSendCsd, opcSetBlocklen]
  obtain rfl | rfl := ho
  · rw [h0] at h; split at h <;> cases h; exact .inl rfl
  · rw [h8] at h; split at h <;> cases h; exact .inr rfl

/-- A frame of the command slot is the encoding of its command, or carries a checksum and differs in that byte alone. -/
theorem encode_of_decodeCommand {f : Frame} {i : Instr} (h : decodeCommand f = .ok i) :
    encode i = .frame f ∨
    ((i = .cmd0 ∨ i = .cmd8) ∧ ∃ g, encode i = .frame g ∧ f.extractLsb' 8 40 = g.extractLsb' 8 40) := by
  obtain ⟨hmarker, hi, hcheck⟩ := decodeCommand_ok h
  have hencode := encode_of_commandOf hi
  have hf := packFrame_fields hmarker
  generalize frameOpcode f = o, frameArg f = a, frameCheck f = c at *
  subst hf
  rw [encodeFrame_eq] at hencode
  cases hcrc : crcMandatory o with
  | true =>
    refine .inr ⟨commandOf_of_crcMandatory hcrc hi, _, hencode, ?_⟩
    rw [extractLsb'_packFrame_firstFive, extractLsb'_packFrame_firstFive]
  | false =>
    obtain rfl : c = idleByte := hcheck.resolve_left (by simp [hcrc])
    have hfill : checkByte o a = idleByte := by simp [checkByte, checkByteWith, hcrc]
    exact .inl (by rw [hencode, hfill])

theorem encode_of_decodeEncoder {f : Frame} {i : Instr} (h : decodeEncoder f = .ok i) : encode i = .frame f := by
  unfold decodeEncoder at h
  split at h <;> cases h
  case isTrue hmarker => exact congrArg CodeWord.frame (packFrame_fields hmarker)

theorem encode_of_decodeIdle {b : Byte} {i : Instr} (h : decodeIdle b = .ok i) : encode i = .byte b := by
  unfold decodeIdle at h
  split at h <;> cases h
  case isTrue hb => rw [hb]; rfl

theorem encode_of_decodeR1 {b : Byte} {i : Instr} (h : decodeR1 b = .ok i) : encode i = .byte b := by
  unfold decodeR1 at h
  split at h <;> cases h
  case isFalse hb => exact congrArg CodeWord.byte (r1_byte (by simpa using hb))

theorem encode_of_decodeToken {b : Byte} {i : Instr} (h : decodeToken b = .ok i) : encode i = .byte b := by
  unfold decodeToken at h
  split at h <;> cases h
  case isTrue hb => rw [hb]; rfl

theorem encode_of_decodeDataResponse {b : Byte} {i : Instr} (h : decodeDataResponse b = .ok i) : encode i = .byte b := by
  unfold decodeDataResponse at h
  split at h <;> cases h
  case isTrue hb =>
    have hjoin : b.extractLsb' 5 3 ++ b.extractLsb' 0 5 = b := by
      rw [BitVec.extractLsb'_append_extractLsb'_eq_extractLsb' (by rfl)]; simp
    rw [encode, ← hb, hjoin]

/-- Settles O2: each decoder reads off fields whose encoding is the word, and only a computed check byte is not among them. -/
theorem decodedWordIsTheEncoding : Obligations.DecodedWordIsTheEncoding := by
  unfold Obligations.DecodedWordIsTheEncoding
  intro slot word i hslot h
  cases slot <;> cases word
  case ctrl.ctrl => exact absurd rfl hslot
  case command.frame f =>
    obtain hencode | ⟨hi, g, hg, hbits⟩ := encode_of_decodeCommand h
    · exact .inl hencode
    · exact .inr ⟨f, g, rfl, hg, rfl, hi, hbits⟩
  case encoder.frame f => exact .inl (encode_of_decodeEncoder h)
  case ready.byte b => exact .inl (encode_of_decodeIdle h)
  case r1.byte b => exact .inl (encode_of_decodeR1 h)
  case token.byte b => exact .inl (encode_of_decodeToken h)
  case dataResponse.byte b => exact .inl (encode_of_decodeDataResponse h)
  case programming.byte b => exact .inl (encode_of_decodeIdle h)
  all_goals cases h

/-! ## Fixed words, operation codes and the opcode byte -/

set_option maxRecDepth 2000 in
/-- Settles O3: each is one closed computation of the decoder or of the default checksum. -/
theorem tableWordsDecodeToTheirRows : Obligations.TableWordsDecodeToTheirRows := by
  unfold Obligations.TableWordsDecodeToTheirRows
  refine ⟨?_, ?_, ?_, ?_, ?_, ?_, ?_, ?_, ?_, ?_, ?_, ?_, ?_, ?_, ?_, ?_, ?_, ?_⟩
  all_goals decide

/-- Settles O4: `decodeCtrl` is one of four by the residue. -/
theorem operationCodeIsTheLowTwoBits : Obligations.OperationCodeIsTheLowTwoBits := by
  unfold Obligations.OperationCodeIsTheLowTwoBits
  intro v
  obtain ⟨hv, hd⟩ | ⟨hv, hd⟩ | ⟨hv, hd⟩ | ⟨hv, hd⟩ := decodeCtrl_cases v <;> simp [decode, hd, hv]

/-- Settles O6: byte 0 of a packed frame is the marker and the opcode. -/
theorem frameBeginsWithMarkerAndOpcode : Obligations.FrameBeginsWithMarkerAndOpcode := by
  unfold Obligations.FrameBeginsWithMarkerAndOpcode
  intro o a c s
  obtain ⟨h0, -⟩ := frameByte_packFrame o a (checkByte o a)
  refine ⟨_, exec_encode o a c s, h0, ?_⟩
  rw [h0]
  exact BitVec.msb_append

end Sys2Proof
end

section
/-! The host port: register and buffer accesses (R21, R22, R27, R31, R75), and the words the host reads (R24 to R26, R33, R185,
R186). -/

namespace Sys2Proof.Machine

/-! ## A host action is a step -/

section
variable {s : State}

theorem step_host {a : HostAction} {rest : List Input} (hin : s.inputs = .host a :: rest) :
    step s = runTurn (hostTurn a { s with inputs := rest }) := by
  simp only [step, nextTurn, hin]

theorem step_regRead {i : Nat} {rest : List Input} (hin : s.inputs = .host (.regRead i) :: rest) :
    step s = .next { s with inputs := rest, rdata := regRead i s } := step_host hin

theorem step_regWrite {i : Nat} {v : U32} {rest : List Input} (hin : s.inputs = .host (.regWrite i v) :: rest)
    (hi : i ≠ 0) :
    step s = .next (match hostReg i with
      | none => { s with inputs := rest }
      | some r => writeHostReg r v { s with inputs := rest }) :=
  (step_host hin).trans (runTurn_regWrite v _ hi)

/-! ## Register numbers -/

/-- The number of a register (R22). -/
def regNumber : HostReg → Nat
  | .ctrl => 0
  | .status => 1
  | .errcode => 2
  | .blkaddr => 3
  | .rcrc => 4
  | .baudHz => 5
  | .cdFlags => 6
  | .cdSizefield => 7
  | .cdBlockcount => 8
  | .cdBytesize => 9
  | .tReadyMs => 10
  | .nR1 => 11
  | .nToken => 12
  | .nProg => 13
  | .tInitMs => 14
  | .nSync => 15
  | .diag => 16
  | .diagIfcond => 17
  | .diagOcr => 18
  | .datainPin => 19
  | .pins => 20
  | .diagCsd j => 21 + j.val

theorem eq_regNumber_of_hostReg {i : Nat} {r : HostReg} (h : hostReg i = some r) : i = regNumber r := by
  unfold hostReg at h
  split at h <;> cases h <;> rfl

theorem regRead_of_hostReg {i : Nat} {r : HostReg} (h : hostReg i = some r) (s : State) :
    regRead i s = readHostReg r s := by simp [regRead, h]

theorem regRead_of_none {i : Nat} (h : hostReg i = none) (s : State) : regRead i s = 0 := by simp [regRead, h]

theorem hostReg_of_ge {i : Nat} (h : 25 ≤ i) : hostReg i = none := by
  cases hr : hostReg i with
  | none => rfl
  | some r =>
    have hi := eq_regNumber_of_hostReg hr
    cases r <;> simp only [regNumber] at hi <;> omega

/-! ## Register writes -/

/-- A register write changes the host's configuration and nothing else (R27). -/
theorem storeHostReg_frame (r : HostReg) (v : U32) (s : State) :
    storeHostReg r v s = { s with
      blkaddr := (storeHostReg r v s).blkaddr, baudHz := (storeHostReg r v s).baudHz
      tReadyMs := (storeHostReg r v s).tReadyMs, nR1 := (storeHostReg r v s).nR1
      nToken := (storeHostReg r v s).nToken, nProg := (storeHostReg r v s).nProg
      tInitMs := (storeHostReg r v s).tInitMs, nSync := (storeHostReg r v s).nSync
      datainPin := (storeHostReg r v s).datainPin } := by
  cases r <;> rfl

theorem storeHostReg_baudHz_other {r : HostReg} (v : U32) (s : State) (h : r ≠ .baudHz) :
    (storeHostReg r v s).baudHz = s.baudHz := by
  cases r
  case baudHz => exact absurd rfl h
  all_goals rfl

theorem storeHostReg_datainPin_other {r : HostReg} (v : U32) (s : State) (h : r ≠ .datainPin) :
    (storeHostReg r v s).datainPin = s.datainPin := by
  cases r
  case datainPin => exact absurd rfl h
  all_goals rfl

/-- A write to a register shows in no other, but for the flags of `STATUS` and the pins derived from it (R185, R186). -/
theorem readHostReg_storeHostReg_other {r q : HostReg} (v : U32) (s : State) (h : q ≠ r)
    (hstatus : q = .status → r ≠ .baudHz ∧ r ≠ .datainPin) (hpins : q = .pins → r ≠ .datainPin) :
    readHostReg q (storeHostReg r v s) = readHostReg q s := by
  cases q
  case status =>
    obtain ⟨hbaud, hpin⟩ := hstatus rfl
    have hwarn : baudWarn (storeHostReg r v s) = baudWarn s := by
      rw [baudWarn, storeHostReg_baudHz_other v s hbaud]; rfl
    have herr : pinErr (storeHostReg r v s) = pinErr s := by
      rw [pinErr, storeHostReg_datainPin_other v s hpin]; rfl
    rw [readHostReg, statusWord, hwarn, herr, storeHostReg_frame]; rfl
  case pins => rw [readHostReg, pinsWord, storeHostReg_datainPin_other v s (hpins rfl)]; rfl
  case blkaddr | tReadyMs | nR1 | nToken | nProg | tInitMs | nSync | baudHz | datainPin =>
    cases r <;> simp [readHostReg, storeHostReg] at h ⊢
  all_goals rw [storeHostReg_frame]; rfl

/-- The same by number. -/
theorem regRead_storeHostReg_other {i j : Nat} {r : HostReg} (v : U32) (s : State) (hr : hostReg i = some r) (hj : j ≠ i)
    (hstatus : j = 1 → i ≠ 5 ∧ i ≠ 19) (hpins : j = 20 → i ≠ 19) :
    regRead j (storeHostReg r v s) = regRead j s := by
  cases hq : hostReg j with
  | none => rw [regRead_of_none hq, regRead_of_none hq]
  | some q =>
    have hi := eq_regNumber_of_hostReg hr
    have hjq := eq_regNumber_of_hostReg hq
    rw [regRead_of_hostReg hq, regRead_of_hostReg hq]
    refine readHostReg_storeHostReg_other v s ?_ (fun h => ?_) fun h => ?_
    · rintro rfl; exact hj (hjq.trans hi.symm)
    · subst h
      obtain ⟨h5, h19⟩ := hstatus hjq
      exact ⟨by rintro rfl; exact h5 hi, by rintro rfl; exact h19 hi⟩
    · subst h
      rintro rfl; exact hpins hjq hi

/-- A register write at rest, as a step. -/
theorem step_storeHostReg {i : Nat} {v : U32} {rest : List Input} {r : HostReg}
    (hin : s.inputs = .host (.regWrite i v) :: rest) (hrest : s.busy = false) (hr : hostReg i = some r) (hi : i ≠ 0) :
    step s = .next (storeHostReg r v { s with inputs := rest }) := by
  rw [step_regWrite hin hi, hr]
  simp [writeHostReg, hrest]

/-- The data-in pin takes the low 8 bits of a written value. -/
theorem setWidth_setWidth_low (v : U32) : (v.setWidth 8).setWidth 32 = v &&& 0xFF := by
  apply BitVec.eq_of_toNat_eq
  have hmask : (0xFF : U32).toNat = 2 ^ 8 - 1 := rfl
  rw [BitVec.toNat_and, hmask, Nat.and_two_pow_sub_one_eq_mod, BitVec.toNat_setWidth, BitVec.toNat_setWidth]
  exact Nat.mod_eq_of_lt (by omega)

/-- The RW registers by number, each of which reads back what is written to it (R22, R27). -/
theorem exists_rwReg {i : Nat} (hi : i ∈ [3, 5, 10, 11, 12, 13, 14, 15, 19]) (v : U32) :
    ∃ r, hostReg i = some r ∧ ∀ s, readHostReg r (storeHostReg r v s) = if i = 19 then v &&& 0xFF else v := by
  simp only [List.mem_cons, List.not_mem_nil, or_false] at hi
  obtain rfl | rfl | rfl | rfl | rfl | rfl | rfl | rfl | rfl := hi
  case inr.inr.inr.inr.inr.inr.inr.inr => exact ⟨_, rfl, fun _ => setWidth_setWidth_low v⟩
  all_goals exact ⟨_, rfl, fun _ => rfl⟩

/-- A register that is not RW takes no write (R22, R27). -/
theorem storeHostReg_of_not_rw {r : HostReg} (v : U32) (s : State)
    (h : regNumber r ∉ [3, 5, 10, 11, 12, 13, 14, 15, 19]) : storeHostReg r v s = s := by
  cases r
  case blkaddr | baudHz | tReadyMs | nR1 | nToken | nProg | tInitMs | nSync | datainPin => exact absurd (by decide) h
  all_goals rfl

end

end Sys2Proof.Machine

namespace Sys2Proof

open Machine

/-- Settles O13: the number names one RW register, `storeHostReg` writes that one, and the others read as before. -/
theorem registerWriteReadsBack : Obligations.RegisterWriteReadsBack := by
  unfold Obligations.RegisterWriteReadsBack
  intro s i v rest hi hrest hin
  have hi0 : i ≠ 0 := by rintro rfl; revert hi; decide
  have hwrite {r : HostReg} (hr : hostReg i = some r) := step_storeHostReg hin hrest hr hi0
  refine ⟨?others, ?_, ?_, ?_, ?_, ?_, ?_, ?_, ?_, ?pin⟩
  case others =>
    obtain ⟨r, hr, hback⟩ := exists_rwReg hi v
    exact ⟨_, hwrite hr, (regRead_of_hostReg hr _).trans (hback _), fun j hj h1 h20 =>
      regRead_storeHostReg_other v _ hr hj h1 h20⟩
  case pin =>
    rintro rfl
    rw [hwrite rfl, storeHostReg, BitVec.setWidth_eq_extractLsb' (by decide)]
  all_goals rintro rfl; exact hwrite rfl

/-- Settles O14: a busy controller takes no write, and neither does a register that is not RW or a number that names none. -/
theorem otherRegisterWritesAreIgnored : Obligations.OtherRegisterWritesAreIgnored := by
  unfold Obligations.OtherRegisterWritesAreIgnored
  intro s i v rest hin hi hcase
  rw [step_regWrite hin hi]
  cases hr : hostReg i with
  | none => rfl
  | some r =>
    obtain hbusy | hro := hcase
    · simp [writeHostReg, hbusy]
    · have hstore := storeHostReg_of_not_rw v { s with inputs := rest } (eq_regNumber_of_hostReg hr ▸ hro)
      simp [writeHostReg, hstore]

end Sys2Proof
end

section
/-! The words the host reads: `STATUS`, `ERRCODE`, `DIAG`, `CD_FLAGS`, `PINS` by their fields (R22, R24 to R26, R29, R33, R185,
R186), and the buffer through the port (R31, R75). -/

namespace Sys2Proof.Machine

/-! ## Phases by code -/

theorem phase_mem_phaseTable (p : Phase) : p ∈ phaseTable.map Prod.fst := by cases p <;> decide

/-- The table of R24 lists the code of each phase. -/
theorem code_of_mem_phaseTable : ∀ entry ∈ phaseTable, entry.1.code.toNat = entry.2 := by decide

/-! ## `STATUS` -/

/-- The flag a one-bit field shows. -/
@[simp] theorem flagBit_getElem_zero (b : Bool) : (flagBit b)[0] = b := by cases b <;> rfl

theorem statusWord_code (s : State) : (statusWord s).extractLsb' 8 8 = s.phase.code := by
  apply BitVec.eq_of_getLsbD_eq
  intro i hi
  simp only [statusWord, BitVec.getLsbD_extractLsb', BitVec.getLsbD_append]
  interval_cases i <;> simp

theorem statusWord_high (s : State) : (statusWord s).extractLsb' 16 16 = 0 := by
  apply BitVec.eq_of_getLsbD_eq
  intro i hi
  simp only [statusWord, BitVec.getLsbD_extractLsb', BitVec.getLsbD_append]
  interval_cases i <;> simp

/-- The low byte of `STATUS`, flag by flag (R25). -/
theorem statusWord_flags (s : State) :
    (statusWord s).getLsbD 0 = s.busy ∧ (statusWord s).getLsbD 1 = s.done ∧ (statusWord s).getLsbD 2 = s.err ∧
    (statusWord s).getLsbD 3 = s.inited ∧ (statusWord s).getLsbD 4 = pinErr s ∧ (statusWord s).getLsbD 5 = baudWarn s ∧
    (statusWord s).getLsbD 6 = s.cs ∧ (statusWord s).getLsbD 7 = false := by
  simp only [statusWord, BitVec.getLsbD_append]
  simp

/-! ## `DIAG`, `CD_FLAGS`, `PINS` and `DIAG_CSD0..3` -/

/-- The four bytes of a word made of bytes. -/
theorem extractLsb'_append_bytes (b3 b2 b1 b0 : Byte) :
    (b3 ++ b2 ++ b1 ++ b0).extractLsb' 0 8 = b0 ∧ (b3 ++ b2 ++ b1 ++ b0).extractLsb' 8 8 = b1 ∧
    (b3 ++ b2 ++ b1 ++ b0).extractLsb' 16 8 = b2 ∧ (b3 ++ b2 ++ b1 ++ b0).extractLsb' 24 8 = b3 := by
  refine ⟨?_, ?_, ?_, ?_⟩
  all_goals
    apply BitVec.eq_of_getLsbD_eq
    intro i hi
    simp only [BitVec.getLsbD_extractLsb', BitVec.getLsbD_append]
    interval_cases i <;> simp

/-- The fields of `DIAG` (R33). -/
theorem diagWord_fields (s : State) :
    (diagWord s).extractLsb' 0 8 = s.lastR1 ∧ (diagWord s).extractLsb' 8 8 = s.lastRx ∧
    (diagWord s).extractLsb' 16 8 = s.failPhase.code ∧ (diagWord s).extractLsb' 24 8 = 0 :=
  extractLsb'_append_bytes 0 s.failPhase.code s.lastRx s.lastR1

/-- The fields of `CD_FLAGS` (R29). -/
theorem cdFlagsWord_fields (s : State) :
    (cdFlagsWord s).getLsbD 0 = s.cd.isHc ∧ (cdFlagsWord s).extractLsb' 1 2 = s.cd.csdVer ∧
    (cdFlagsWord s).extractLsb' 3 29 = 0 := by
  refine ⟨?hc, ?_, ?_⟩
  case hc => simp only [cdFlagsWord, BitVec.getLsbD_append]; simp
  all_goals
    apply BitVec.eq_of_getLsbD_eq
    intro i hi
    simp only [cdFlagsWord, BitVec.getLsbD_extractLsb', BitVec.getLsbD_append]
    interval_cases i <;> simp

/-- The four pins of `PINS` (R185). -/
theorem pinsWord_fields (s : State) :
    (pinsWord s).extractLsb' 0 8 = s.datainPin ∧ (pinsWord s).extractLsb' 8 8 = s.datainPin + 1 ∧
    (pinsWord s).extractLsb' 16 8 = s.datainPin + 2 ∧ (pinsWord s).extractLsb' 24 8 = s.datainPin + 3 :=
  extractLsb'_append_bytes (s.datainPin + 3) (s.datainPin + 2) (s.datainPin + 1) s.datainPin

/-- The four words of a 128-bit value are all of it. -/
theorem append_extractLsb'_words (x : BitVec 128) :
    x.extractLsb' 96 32 ++ x.extractLsb' 64 32 ++ x.extractLsb' 32 32 ++ x.extractLsb' 0 32 = x := by
  iterate 3 rw [BitVec.extractLsb'_append_extractLsb'_eq_extractLsb' (by rfl)]
  exact BitVec.extractLsb'_eq_self

/-! ## The buffer through the port -/

section
variable {s : State} {rest : List Input}

theorem step_bufWrite {k : BitVec 9} {v : Byte} (hin : s.inputs = .host (.bufWrite k v) :: rest) (hrest : s.busy = false) :
    step s = .next (setBufByte { s with inputs := rest } k v) := by
  rw [step_host hin]
  simp [hostTurn, runTurn, bufWrite, hrest]

theorem step_bufRead {k : BitVec 9} (hin : s.inputs = .host (.bufRead k) :: rest) :
    step s = .next { s with inputs := rest, rdata := (bufReadValue k s).setWidth 32, draws := s.draws + 1 } :=
  step_host hin

theorem bufReadValue_of_rest {k : BitVec 9} (h : s.busy = false) : bufReadValue k s = bufByte s k := by
  simp [bufReadValue, h]

theorem runSteps_succ {n : Nat} {t : State} (h : step s = .next t) : runSteps (n + 1) s = runSteps n t := by
  simp [runSteps, h]

end

end Sys2Proof.Machine

namespace Sys2Proof

open Machine

/-- Settles O15: a read of register 1 gives `STATUS`, whose bits are its fields. -/
theorem statusShowsEveryFlag : Obligations.StatusShowsEveryFlag := by
  unfold Obligations.StatusShowsEveryFlag
  intro s rest hin
  obtain ⟨h0, h1, h2, h3, h4, h5, h6, h7⟩ := statusWord_flags s
  refine ⟨statusWord s, step_regRead hin, h0, h1, h2, h3, h4, h5, h6, h7, fun entry hentry hphase => ?_,
    phase_mem_phaseTable _, statusWord_high s⟩
  rw [statusWord_code, hphase]
  exact code_of_mem_phaseTable entry hentry

/-- Settles O16: each register is its word, and the words are their fields. -/
theorem readOnlyRegistersShowTheirFields : Obligations.ReadOnlyRegistersShowTheirFields := by
  unfold Obligations.ReadOnlyRegistersShowTheirFields
  intro s
  obtain ⟨hr1, hrx, hphase, hdiag⟩ := diagWord_fields s
  obtain ⟨hhc, hver, hflags⟩ := cdFlagsWord_fields s
  have hwide {n : Nat} (x : BitVec n) (hn : n ≤ 32) : (x.setWidth 32).toNat = x.toNat :=
    BitVec.toNat_setWidth_of_le hn
  refine ⟨fun i rest hin => step_regRead hin, rfl, rfl, rfl, rfl, rfl, rfl, rfl, rfl, hwide _ (by decide),
    hwide _ (by decide), hwide _ (by decide), hhc, hver, hflags, rfl, rfl, rfl, hr1, hrx, fun entry hentry hfail => ?_,
    phase_mem_phaseTable _, hdiag, rfl, rfl, append_extractLsb'_words _, rfl, fun i hi => regRead_of_none (hostReg_of_ge hi) s⟩
  have hword : regRead 16 s = diagWord s := rfl
  rw [hword, hphase, hfail]
  exact code_of_mem_phaseTable entry hentry

/-- Settles O18: the fields of `PINS` are sums modulo 256, and pin 4 is a member of the valid set by definition. -/
theorem pinsFollowTheDataInPin : Obligations.PinsFollowTheDataInPin := by
  unfold Obligations.PinsFollowTheDataInPin
  intro s
  obtain ⟨h0, h1, h2, h3⟩ := pinsWord_fields s
  have hword : regRead 20 s = pinsWord s := rfl
  rw [hword, h0, h1, h2, h3]
  refine ⟨rfl, BitVec.toNat_add .., BitVec.toNat_add .., BitVec.toNat_add .., fun hpin => ⟨?_, ?_⟩⟩
  · rw [pinsWord, hpin]; rfl
  · rw [pinErr, validDatainPin, hpin]; rfl

/-- Settles O19: bit 5 of `STATUS` is the flag, which compares as unsigned numbers. -/
theorem baudWarningOutsideTheRange : Obligations.BaudWarningOutsideTheRange := by
  unfold Obligations.BaudWarningOutsideTheRange
  intro s
  obtain ⟨-, -, -, -, -, hbit, -⟩ := statusWord_flags s
  have hword : regRead 1 s = statusWord s := rfl
  rw [hword, hbit, baudWarn, Bool.or_eq_false_iff, decide_eq_false_iff_not, decide_eq_false_iff_not, BitVec.not_lt,
    BitVec.not_lt, BitVec.le_def, BitVec.le_def]
  rfl

/-- Settles O45: the nine codes are distinct. -/
theorem errorCodesFollowTheTable : Obligations.ErrorCodesFollowTheTable := by
  unfold Obligations.ErrorCodesFollowTheTable
  intro s
  have hword : regRead 2 s = (errCode s.errcode).setWidth 32 := rfl
  rw [hword]
  cases s.errcode with
  | none => decide
  | some e => cases e <;> decide

/-- Settles O17: the write sets one byte of the buffer, which the read sees, and nothing else. -/
theorem bufferWriteThenRead : Obligations.BufferWriteThenRead := by
  unfold Obligations.BufferWriteThenRead
  intro s k j v rest
  refine ⟨fun hrest hin => ?atRest, fun hbusy hin => ?busy⟩
  case atRest =>
    have hbyte (m : BitVec 9) := bufByte_setBufByte { s with inputs := .host (.bufRead j) :: rest } k m v
    have hvalue := (bufReadValue_of_rest (k := j) (s := setBufByte _ k v) hrest).trans (hbyte j)
    refine ⟨_, (runSteps_succ (step_bufWrite hin hrest)).trans (runSteps_succ (step_bufRead rfl)), ?_, hbyte, rfl⟩
    exact (BitVec.toNat_setWidth_of_le (by decide)).trans (congrArg BitVec.toNat hvalue)
  case busy => rw [step_host hin]; simp [hostTurn, runTurn, bufWrite, hbusy]

end Sys2Proof
end

section
/-! START and NOP (R181, R182), the inputs of a step (R96, R220, R236), and the instruction each step runs (R80). -/

namespace Sys2Proof.Machine

section
variable {s : State}

/-! ## `CTRL` writes -/

theorem step_ctrlWrite {v : U32} {rest : List Input} (hin : s.inputs = .host (.regWrite 0 v) :: rest) :
    step s = exec (decodeCtrl v) { s with inputs := rest } := step_host hin

/-- No operation code does anything to a busy controller (R23, R181). -/
theorem exec_ctrl_of_busy (hbusy : s.busy = true) (v : U32) : exec (decodeCtrl v) s = .next s := by
  have hstart (op : HostOp) : start op s = s := start_of_busy hbusy
  obtain ⟨-, hd⟩ | ⟨-, hd⟩ | ⟨-, hd⟩ | ⟨-, hd⟩ := decodeCtrl_cases v <;> rw [hd]
  · rfl
  all_goals exact congrArg Host.Outcome.next (hstart _)

/-- START of a transfer in range: the state from which its command is encoded (R62). -/
theorem beginTransfer_latchStart_of_inRange {op : HostOp} {c : Command} {o : BitVec 6} (h : s.blkaddr < s.cd.blockcount) :
    beginTransfer c o (latchStart op s) = { s with
      curOp := op, curBlk := s.blkaddr, done := false, err := false, errcode := none, busy := true,
      phase := .commandSent, cmd := c, ctl := .encode o (if s.cd.isHc then s.blkaddr else s.blkaddr * 512) } :=
  beginTransfer_of_inRange (s := latchStart op s) h

/-- From the operands of ENCODE to chip-select: FRAME holds the command called, so its command phase begins (R110, R130). -/
theorem controllerRun_encode {o : BitVec 6} {a : U32} {i : Instr} {c : Command} (hctl : s.ctl = .encode o a)
    (hcommand : commandOf o a = .ok i) (hi : commandOfInstr i = some c) :
    controllerRun 2 s = .next (beginCommand c { s with ctl := .command, frame := encodeFrame o a }) := by
  have hbegin : commandToBegin { s with ctl := .command, frame := encodeFrame o a } = c := by
    simp [commandToBegin, decodeCommand_encodeFrame, hcommand, hi]
  rw [controllerRun_succ (controllerStep_encode hctl), controllerRun_one, controllerStep_command_eq rfl, hbegin]

/-! ## Inputs -/

theorem step_of_no_input_eq_ownTurn (hin : s.inputs = []) : step s = runTurn (ownTurn s) := by
  simp only [step, nextTurn, hin]

theorem runTurn_ownTurn_of_running (hrun : s.stalled = false) : runTurn (ownTurn s) = controllerStep s := by
  rw [ownTurn_of_running hrun]; rfl

theorem step_turn {rest : List Input} (hin : s.inputs = .turn :: rest) :
    step s = runTurn (ownTurn { s with inputs := rest }) := by
  simp only [step, nextTurn, hin]

theorem step_reset {rest : List Input} (hin : s.inputs = .reset :: rest) :
    step s = .next (resetController { s with inputs := rest }) := by
  simp only [step, nextTurn, hin, runTurn]

theorem step_hang {rest : List Input} (hin : s.inputs = .hang :: rest) :
    step s = .next { s with inputs := rest, stalled := true } := by
  simp only [step, nextTurn, hin, runTurn]

theorem step_poll_of_done {rest : List Input} (hin : s.inputs = .poll :: rest) (hdone : s.done = true) :
    step s = .next { s with inputs := rest, rdata := statusWord s } := by
  simp only [step, nextTurn, hin, hdone, if_true, runTurn]

theorem step_poll_of_not_done {rest : List Input} (hin : s.inputs = .poll :: rest) (hdone : s.done = false) :
    step s = runTurn (ownTurn { s with rdata := statusWord s }) := by
  simp only [step, nextTurn, hin, hdone, Bool.false_eq_true, if_false]

/-- No host action hangs: it needs no exchange. -/
theorem runTurn_hostTurn_total (a : HostAction) (s : State) : ∃ t, runTurn (hostTurn a s) = .next t := by
  cases a with
  | regWrite i v =>
    by_cases hi : i = 0
    · subst hi; exact exec_total (decodeCtrl v) s
    · exact ⟨_, runTurn_regWrite v s hi⟩
  | regRead i => exact ⟨_, rfl⟩
  | bufWrite k v => exact ⟨_, rfl⟩
  | bufRead k => exact ⟨_, rfl⟩

/-! ## Points that take a word -/

/-- At a point that takes a word, a word that decodes is run. -/
theorem step_of_controllerTurn {i : Instr} {u : State} (hin : s.inputs = []) (hrun : s.stalled = false ∨ exchangeDue s = false)
    (hturn : controllerTurn s = .run i u) : step s = exec i u := by
  have hown : ownTurn s = controllerTurn s := by
    obtain h | h := hrun <;> simp [ownTurn, h]
  rw [step_of_no_input_eq_ownTurn hin, hown, hturn]; rfl

theorem controllerTurn_command_of_ok {i : Instr} (hctl : s.ctl = .command) (hd : decode .command (.frame s.frame) = .ok i) :
    controllerTurn s = .run i s := by
  simp only [controllerTurn, hctl, hd, orElse]

theorem controllerTurn_command_of_error {r : Reject} (hctl : s.ctl = .command)
    (hd : decode .command (.frame s.frame) = .error r) : controllerTurn s = .move (beginCommand s.cmd s) := by
  simp only [controllerTurn, hctl, hd, orElse]

theorem controllerTurn_readyPoll_of_ok {i : Instr} (hctl : s.ctl = .readyPoll)
    (hd : decode .ready (.byte (rxNext s)) = .ok i) : controllerTurn s = .run i (pollReady s) := by
  simp only [controllerTurn, hctl, hd, orElse]

theorem controllerTurn_waitR1_of_ok {i : Instr} (hctl : s.ctl = .waitR1) (hcnt : s.cnt < s.nR1)
    (hd : decode .r1 (.byte (rxNext s)) = .ok i) : controllerTurn s = .run i (pollR1 s) := by
  simp only [controllerTurn, hctl, hcnt, if_true, hd, orElse]

theorem controllerTurn_waitToken_of_ok {i : Instr} (hctl : s.ctl = .waitToken) (hcnt : s.cnt < s.nToken)
    (hd : decode .token (.byte (rxNext s)) = .ok i) : controllerTurn s = .run i (pollCounted s) := by
  simp only [controllerTurn, hctl, hcnt, if_true, hd, orElse]

theorem controllerTurn_response_of_ok {i : Instr} (hctl : s.ctl = .response)
    (hd : decode .dataResponse (.byte (rxNext s)) = .ok i) : controllerTurn s = .run i (exchange idleByte s) := by
  simp only [controllerTurn, hctl, hd, orElse]

theorem controllerTurn_waitProg_of_ok {i : Instr} (hctl : s.ctl = .waitProg) (hcnt : s.cnt < s.nProg)
    (hd : decode .programming (.byte (rxNext s)) = .ok i) : controllerTurn s = .run i (pollCounted s) := by
  simp only [controllerTurn, hctl, hcnt, if_true, hd, orElse]

/-- Commands 0 and 8 skip the ready wait, no other does (R133). -/
theorem skipReady_eq (c : Command) : skipReady c = decide (c = .cmd0 ∨ c = .cmd8) := by cases c <;> rfl

end

end Sys2Proof.Machine

namespace Sys2Proof

open Machine

/-- Settles O7: the low two bits decode to NOP, whose meaning is the state itself. -/
theorem nopChangesNothing : Obligations.NopChangesNothing := by
  unfold Obligations.NopChangesNothing
  intro s v rest hin hv
  have hnop : decodeCtrl v = .nop := by
    obtain ⟨-, hd⟩ | ⟨h, -⟩ | ⟨h, -⟩ | ⟨h, -⟩ := decodeCtrl_cases v
    · exact hd
    all_goals omega
  exact ⟨rfl, by rw [step_ctrlWrite hin, hnop]; rfl⟩

/-- Settles O8: START looks at `BUSY` first. -/
theorem startIsIgnoredWhileBusy : Obligations.StartIsIgnoredWhileBusy := by
  unfold Obligations.StartIsIgnoredWhileBusy
  intro s hbusy
  have hstart (op : HostOp) : Host.Outcome.next (start op s) = (.next s : Host.Outcome State Fault Refusal) :=
    congrArg _ (start_of_busy hbusy)
  exact ⟨hstart .init, hstart .read, hstart .write, fun v rest hin =>
    (step_ctrlWrite hin).trans (exec_ctrl_of_busy (s := { s with inputs := rest }) hbusy v)⟩

/-- Settles O9: at rest START launches step 0, whose second half is the controller's next step. -/
theorem initStartClearsTheDescriptor : Obligations.InitStartClearsTheDescriptor := by
  unfold Obligations.InitStartClearsTheDescriptor
  exact ⟨fun s hrest => congrArg Host.Outcome.next (start_of_idle hrest), fun s hctl => controllerStep_initBaud hctl⟩

/-- Settles O11: the range check passes and the argument is the one the addressing mode forms. -/
theorem transferArgumentFollowsAddressingMode : Obligations.TransferArgumentFollowsAddressingMode := by
  unfold Obligations.TransferArgumentFollowsAddressingMode
  intro s hrest hrange
  refine ⟨if s.cd.isHc then s.blkaddr else s.blkaddr * 512, fun hhc => if_pos hhc, fun hhc => ?_, ?_, ?_⟩
  · rw [hhc]; exact BitVec.toNat_mul ..
  · rw [exec_read_of_idle hrest, beginTransfer_latchStart_of_inRange hrange]
  · rw [exec_write_of_idle hrest, beginTransfer_latchStart_of_inRange hrange]

/-- Settles O12: ENCODE, then the head of the command phase of the command in FRAME. -/
theorem transferAssertsChipSelectWithItsFrame : Obligations.TransferAssertsChipSelectWithItsFrame := by
  unfold Obligations.TransferAssertsChipSelectWithItsFrame
  intro s arg
  exact ⟨fun hctl => ⟨_, controllerRun_encode hctl (commandOf_readSingle arg) rfl, rfl⟩,
    fun hctl => ⟨_, controllerRun_encode hctl (commandOf_writeSingle arg) rfl, rfl⟩⟩

/-- Settles O20: each command's meaning is the head of its command phase. -/
theorem commandFramesBeginTheirPhase : Obligations.CommandFramesBeginTheirPhase := by
  unfold Obligations.CommandFramesBeginTheirPhase
  intro s arg
  have hbegin {i : Instr} (c : Command) (hi : commandOfInstr i = some c) :
      exec i s = .next (beginCommand c s) := exec_of_commandOfInstr hi s
  exact ⟨hbegin .cmd0 rfl, hbegin .cmd8 rfl, hbegin .cmd55 rfl, hbegin .acmd41 rfl, hbegin .cmd58 rfl, hbegin .cmd9 rfl,
    hbegin .cmd16 rfl, hbegin .cmd17 rfl, hbegin .cmd24 rfl⟩

/-- Settles O48: every input but a turn has a next state, and the controller's own turn has one unless it hangs. -/
theorem noStepStopsButAHungTransport : Obligations.NoStepStopsButAHungTransport := by
  unfold Obligations.NoStepStopsButAHungTransport
  intro s
  have hown (u : State) (hu : step s = runTurn (ownTurn u)) (hstalled : u.stalled = s.stalled)
      (hdue : exchangeDue u = exchangeDue s) :
      (∃ t, step s = .next t) ∨ (step s = .fault .transportHung ∧ s.stalled = true ∧ exchangeDue s = true) := by
    obtain h | ⟨hs, hd, h⟩ := runTurn_ownTurn u
    · exact .inl ⟨_, hu.trans h⟩
    · exact .inr ⟨hu.trans h, hstalled ▸ hs, hdue ▸ hd⟩
  cases hin : s.inputs with
  | nil => exact hown s (step_of_no_input_eq_ownTurn hin) rfl rfl
  | cons input rest =>
    cases input with
    | turn => exact hown { s with inputs := rest } (step_turn hin) rfl rfl
    | host a =>
      obtain ⟨t, ht⟩ := runTurn_hostTurn_total a { s with inputs := rest }
      exact .inl ⟨t, (step_host hin).trans ht⟩
    | reset => exact .inl ⟨_, step_reset hin⟩
    | hang => exact .inl ⟨_, step_hang hin⟩
    | poll =>
      cases hdone : s.done with
      | true => exact .inl ⟨_, step_poll_of_done hin hdone⟩
      | false => exact hown { s with rdata := statusWord s } (step_poll_of_not_done hin hdone) rfl rfl

/-- Settles O59: one equation per input. -/
theorem inputsTakeTheirTurn : Obligations.InputsTakeTheirTurn := by
  unfold Obligations.InputsTakeTheirTurn
  intro s rest
  refine ⟨fun hin hrun => step_of_no_input hin hrun, fun hin hrun => ?turn, fun hin hdone => step_poll_of_done hin hdone,
    fun hin hdone hrun => ?poll, fun hin => step_hang hin, fun hin hstalled hdue => ?hung, fun hin => step_reset hin⟩
  case turn => exact (step_turn hin).trans (runTurn_ownTurn_of_running (s := { s with inputs := rest }) hrun)
  case poll =>
    exact (step_poll_of_not_done hin hdone).trans (runTurn_ownTurn_of_running (s := { s with rdata := statusWord s }) hrun)
  case hung => rw [step_of_no_input_eq_ownTurn hin, ownTurn, hstalled, hdue]; rfl

/-- Settles O58: at each place `controllerTurn` runs what the word there decodes to. -/
theorem stepRunsTheDecodedInstruction : Obligations.StepRunsTheDecodedInstruction := by
  unfold Obligations.StepRunsTheDecodedInstruction
  intro s i
  refine ⟨fun v rest hin hd => ?ctrl, fun hin hctl hd => ?command, fun r hin hctl hd => ?otherFrame,
    fun o a hin hctl hi => ?encode, fun hin hrun hctl hd => ?ready, fun hin hrun hctl hcnt hd => ?r1,
    fun hin hrun hctl hcnt hd => ?token, fun hin hrun hctl hd => ?tokenSent, fun hin hrun hctl hd => ?response,
    fun hin hrun hctl hcnt hd => ?programming⟩
  case ctrl =>
    obtain rfl : decodeCtrl v = i := Except.ok.inj hd
    exact step_ctrlWrite hin
  case command =>
    exact step_of_controllerTurn hin (.inr (by simp [exchangeDue, hctl])) (controllerTurn_command_of_ok hctl hd)
  case otherFrame =>
    have hown : ownTurn s = controllerTurn s := by simp [ownTurn, exchangeDue, hctl]
    rw [step_of_no_input_eq_ownTurn hin, hown, controllerTurn_command_of_error hctl hd, beginCommand_eq, skipReady_eq]
    simp [runTurn]
  case encode =>
    subst hi
    exact step_of_controllerTurn hin (.inr (by simp [exchangeDue, hctl])) (by simp only [controllerTurn, hctl])
  case ready => exact step_of_controllerTurn hin (.inl hrun) (controllerTurn_readyPoll_of_ok hctl hd)
  case r1 => exact step_of_controllerTurn hin (.inl hrun) (controllerTurn_waitR1_of_ok hctl hcnt hd)
  case token => exact step_of_controllerTurn hin (.inl hrun) (controllerTurn_waitToken_of_ok hctl hcnt hd)
  case tokenSent =>
    obtain rfl : Instr.dataStart = i := Except.ok.inj hd
    exact step_of_controllerTurn hin (.inl hrun) (by simp only [controllerTurn, hctl])
  case response => exact step_of_controllerTurn hin (.inl hrun) (controllerTurn_response_of_ok hctl hd)
  case programming => exact step_of_controllerTurn hin (.inl hrun) (controllerTurn_waitProg_of_ok hctl hcnt hd)

/-- Settles O60: each row is a field of the reset state; `STATUS` shows but the two flags of the OPEN parameters. -/
theorem resetGivesItsTable : Obligations.ResetGivesItsTable := by
  unfold Obligations.ResetGivesItsTable
  have hstatus : regRead 1 State.reset &&& 0xFFFFFFCF = 0 := by
    have hword : regRead 1 State.reset = statusWord State.reset := rfl
    rw [hword, statusWord]
    generalize baudWarn State.reset = w, pinErr State.reset = p
    cases w <;> cases p <;> rfl
  refine ⟨rfl, rfl, rfl, rfl, rfl, rfl, rfl, rfl, hstatus, ?_⟩
  and_intros <;> rfl

/-! ## Bytes of the bus -/

/-- Settles O22: `execR1` by its one test. -/
theorem r1ByteEndsItsWait : Obligations.R1ByteEndsItsWait := by
  unfold Obligations.R1ByteEndsItsWait
  exact fun s status => ⟨fun hctl => if_pos hctl, fun hctl => if_neg hctl⟩

/-- Settles O23: `execDataStart` by its two control points, and by the command at the first. -/
theorem dataStartTokenActs : Obligations.DataStartTokenActs := by
  unfold Obligations.DataStartTokenActs
  intro s
  have hexec : exec .dataStart s = if s.ctl = .waitToken then .next (tokenFound s)
      else if s.ctl = .token then .next (sendToken s) else .next s := rfl
  refine ⟨fun hctl hcmd => ?_, fun hctl hcmd => ?_, fun hctl => ?_, fun hwait htoken => ?_⟩
  · rw [hexec, if_pos hctl, tokenFound, if_pos hcmd]
  · rw [hexec, if_pos hctl, tokenFound, if_neg hcmd]
  · rw [hexec, hctl, if_neg (by simp), if_pos rfl]; rfl
  · rw [hexec, if_neg hwait, if_neg htoken]

/-- Settles O24: `execDataResponseAccepted` by its one test. -/
theorem acceptedResponseStartsTheProgrammingWait : Obligations.AcceptedResponseStartsTheProgrammingWait := by
  unfold Obligations.AcceptedResponseStartsTheProgrammingWait
  exact fun s ignored => ⟨fun hctl => if_pos hctl, fun hctl => if_neg hctl⟩

/-- Settles O25: `execIdle` by its two control points. -/
theorem idleByteEndsItsWaits : Obligations.IdleByteEndsItsWaits := by
  unfold Obligations.IdleByteEndsItsWaits
  intro s
  have hexec : exec .idle s = if s.ctl = .readyPoll then .next { s with ctl := .frame 0 }
      else if s.ctl = .waitProg then .next { s with ctl := .release none } else .next s := rfl
  refine ⟨fun hctl => ?_, fun hctl => ?_, fun hready hprog => ?_⟩
  · rw [hexec, if_pos hctl]
  · rw [hexec, hctl, if_neg (by simp), if_pos rfl]
  · rw [hexec, if_neg hready, if_neg hprog]

end Sys2Proof
end

section
/-! The failure exit (R196), the tests of `r1` (R143 to R149, R162, R172), the data-response byte (R174), and the steps of INIT
that are one decision (R145, R150). -/

namespace Sys2Proof.Machine

/-! ## The failure exit -/

theorem recordsRx_eq (e : ErrorKind) : e.recordsRx = decide (e = .writeRejected) := by cases e <;> rfl

/-! ## The data-response byte -/

/-- The low five bits as a number (R91). -/
theorem extractLsb'_eq_dataAccepted_iff (b : Byte) : b.extractLsb' 0 5 = dataAccepted ↔ b.toNat % 32 = 5 := by
  rw [← BitVec.toNat_inj, BitVec.extractLsb'_toNat, Nat.shiftRight_zero]
  rfl

/-! ## After a transaction of INIT -/

section
variable {s : State}

theorem controllerStep_flush_none (hctl : s.ctl = .flush none) :
    controllerStep s = .next (afterTransaction (exchange idleByte s)) := controllerStep_flush hctl

/-- A rejected command 8 is reported with its reply stored (R144). -/
theorem afterCmd8_of_not_cs (hcs : s.cs = false) :
    afterCmd8 s = if s.r1.msb then complete (some .commandRejected) { s with diagIfcond := s.rep }
      else { s with diagIfcond := s.rep, ctl := .initTime } := by
  rw [afterCmd8, raise_of_not_cs (s := { s with diagIfcond := s.rep }) hcs]

/-! ## After WAIT_R1 -/

theorem afterR1_of_transfer (h : s.cmd = .cmd17 ∨ s.cmd = .cmd24) : afterR1 s = r1Received s := by
  obtain h | h := h <;> simp only [afterR1, h]

theorem afterR1_of_cmd9 (h : s.cmd = .cmd9) : afterR1 s = csdAfterR1 s := by simp only [afterR1, h]

theorem controllerRun_afterR1_of_transfer (hctl : s.ctl = .afterR1) (h : s.cmd = .cmd17 ∨ s.cmd = .cmd24) :
    controllerRun 2 s = .next (testR1 (r1Received s)) := by
  rw [controllerRun_succ (controllerStep_afterR1 hctl), afterR1_of_transfer h, controllerRun_one, controllerStep_r1Test rfl]

/-- A nonzero R1 of a transfer is a rejection, in either direction. -/
theorem testR1_of_nonzero (h : s.cmd = .cmd17 ∨ s.cmd = .cmd24) (hr1 : s.r1 ≠ 0) :
    testR1 s = raise .commandRejected s := by
  obtain h | h := h
  · rw [testR1_of_read h, readTestR1, if_neg hr1]
  · rw [testR1_of_write h, writeTestR1, if_neg hr1]

end

end Sys2Proof.Machine

namespace Sys2Proof

open Machine

/-- Settles O32: RELEASE where chip-select is asserted, then COMPLETION; one error keeps the byte before the flush byte. -/
theorem failureExitReleasesThenCompletes : Obligations.FailureExitReleasesThenCompletes := by
  unfold Obligations.FailureExitReleasesThenCompletes
  intro e s
  refine ⟨fun hcs => ?_, fun hcs => raise_of_not_cs hcs⟩
  rw [raise_of_cs hcs, controllerRun_release rfl, flushRelease, flushFailure, recordsRx_eq]
  by_cases he : e = .writeRejected
  · rw [if_pos he, if_pos (by simpa using he)]; rfl
  · rw [if_neg he, if_neg (by simpa using he)]; rfl

/-- Settles O43: the byte accepts by its low five bits, or the write is rejected inside the transaction. -/
theorem dataResponseDecidesTheWrite : Obligations.DataResponseDecidesTheWrite := by
  unfold Obligations.DataResponseDecidesTheWrite
  intro s b rest hctl hcs hrx
  have hbyte : rxNext s = b := rxNext_of_cons hrx
  rw [controllerStep_response hctl, hbyte]
  refine ⟨fun hb => ?_, fun hb => ?_⟩
  · rw [if_pos ((extractLsb'_eq_dataAccepted_iff b).mpr hb)]
    simp [startProg, exchange, hbyte, hrx, idleByte]
  · rw [if_neg (mt (extractLsb'_eq_dataAccepted_iff b).mp hb), raise_of_cs (by simpa using hcs)]
    simp [exchange, hbyte, hrx, idleByte]

/-- Settles O44: the test of `r1` after WAIT_R1, in the phase of each caller. -/
theorem transfersRejectNonzeroR1 : Obligations.TransfersRejectNonzeroR1 := by
  unfold Obligations.TransfersRejectNonzeroR1
  intro s hctl hcs
  refine ⟨fun hr1 hcmd => ?rejected, fun hr1 hcmd => ?read, fun hr1 hcmd => ?write, fun hr1 hcmd => ?csdRejected,
    fun hr1 hcmd => ?csd⟩
  case rejected =>
    rw [controllerRun_afterR1_of_transfer hctl hcmd, testR1_of_nonzero (s := r1Received s) hcmd hr1,
      raise_of_cs (s := r1Received s) hcs]
    rfl
  case read =>
    rw [controllerRun_afterR1_of_transfer hctl (.inl hcmd), testR1_of_read (s := r1Received s) hcmd, readTestR1,
      if_pos (show (r1Received s).r1 = 0 from hr1)]
    rfl
  case write => exact controllerRun_afterR1_of_write hctl hcmd hr1
  case csdRejected =>
    rw [controllerStep_afterR1 hctl, afterR1_of_cmd9 hcmd, csdAfterR1, if_neg hr1, raise_of_cs hcs]
  case csd => rw [controllerStep_afterR1 hctl, afterR1_of_cmd9 hcmd, csdAfterR1, if_pos hr1]; rfl

/-- Settles O35: after the flush byte `afterTransaction` takes the step of the command called; an error outside a transaction
completes at once. -/
theorem initStepsTestR1 : Obligations.InitStepsTestR1 := by
  unfold Obligations.InitStepsTestR1
  intro s hctl hcs
  rw [controllerStep_flush_none hctl]
  have hcs' : (exchange idleByte s).cs = false := hcs
  refine ⟨fun hcmd => ?_, fun hcmd => ?_, fun hcmd => ?_, fun hcmd => ?_, fun hcmd => ?_, fun hcmd => ?_⟩
  all_goals
    have hcmd' : (exchange idleByte s).cmd = _ := hcmd
    simp only [afterTransaction, hcmd']
  · rw [afterCmd0, raise_of_not_cs hcs']; rfl
  · rw [afterCmd8_of_not_cs hcs']; rfl
  · rfl
  · rfl
  · rw [afterCmd58, raise_of_not_cs hcs']; rfl
  · rw [afterCmd16, raise_of_not_cs hcs']; rfl

/-- Settles O36: the reading is compared with the budget once, outside a transaction. -/
theorem operatingConditionLoopHasATimeBudget : Obligations.OperatingConditionLoopHasATimeBudget := by
  unfold Obligations.OperatingConditionLoopHasATimeBudget
  intro s reading times htime hcs
  have hreading : timeNext s = reading := by simp [timeNext, htime]
  have hsample : sampleTime s = { s with timeQueue := times, draws := s.draws + 1, trace := .now reading :: s.trace } := by
    simp [sampleTime, hreading, htime]
  refine ⟨fun hctl => ?start, fun hctl hlt => ?retry, fun hctl hge => ?spent⟩
  case start => rw [controllerStep_initTime hctl, startOpCond, hsample, hreading]; rfl
  case retry =>
    rw [controllerStep_budget hctl, testBudget, hreading, if_neg (by rw [BitVec.not_le]; exact hlt), hsample]; rfl
  case spent =>
    rw [controllerStep_budget hctl, testBudget, hreading, if_pos (show _ ≤ elapsed _ _ from hge), hsample]
    exact congrArg Host.Outcome.next (raise_of_not_cs hcs)

/-- Settles O39: the bus rate, then the commit. -/
theorem initCommitsTheDescriptor : Obligations.InitCommitsTheDescriptor := by
  unfold Obligations.InitCommitsTheDescriptor
  intro s hctl
  rw [controllerRun_succ (controllerStep_raiseBaud hctl), controllerRun_one, controllerStep_commit rfl]
  rfl

end Sys2Proof
end

section
/-! WAIT_R1 and WAIT_READY (R121, R122), and the bound of every counted wait (R125). -/

namespace Sys2Proof.Machine

section
variable {s : State}

/-! ## WAIT_R1 -/

/-- The state of WAIT_R1 after as many iterations as `answers` has bytes: `r1` is the last of them (R122). -/
def afterR1Polls (answers rest : List Byte) (s : State) : State :=
  { afterPolls answers rest s with r1 := answers.getLastD s.r1 }

@[simp] theorem afterR1Polls_ctl (answers rest : List Byte) (s : State) : (afterR1Polls answers rest s).ctl = s.ctl := rfl
@[simp] theorem afterR1Polls_nR1 (answers rest : List Byte) (s : State) : (afterR1Polls answers rest s).nR1 = s.nR1 := rfl

theorem afterR1Polls_nil {rest : List Byte} (h : s.rxQueue = rest) : afterR1Polls [] rest s = s := by
  rw [afterR1Polls, afterPolls_nil h]; rfl

/-- The last answer is that of an iteration after all the others. -/
theorem pollR1_afterR1Polls (answers rest : List Byte) (b : Byte) (s : State) :
    pollR1 (afterR1Polls answers (b :: rest) s) = afterR1Polls (answers ++ [b]) rest s := by
  have hpoll : pollR1 (afterR1Polls answers (b :: rest) s) =
      { pollCounted (afterPolls answers (b :: rest) s) with r1 := b } := rfl
  rw [hpoll, pollCounted_afterPolls, afterR1Polls, List.getLastD_concat]

theorem afterR1Polls_cnt_toNat {answers rest : List Byte} (h0 : s.cnt = 0) (hlen : answers.length < 2 ^ 32) :
    (afterR1Polls answers rest s).cnt.toNat = answers.length := afterPolls_cnt_toNat (rest := rest) h0 hlen

/-- Below its bound WAIT_R1 makes one more iteration, which a valid byte makes its last. -/
theorem controllerStep_waitR1_afterR1Polls {answers rest : List Byte} {b : Byte} (hctl : s.ctl = .waitR1)
    (h0 : s.cnt = 0) (hbound : answers.length < s.nR1.toNat) :
    controllerStep (afterR1Polls answers (b :: rest) s) =
      .next (if b.msb then afterR1Polls (answers ++ [b]) rest s else endR1 (afterR1Polls (answers ++ [b]) rest s)) := by
  have hlt : (afterR1Polls answers (b :: rest) s).cnt < s.nR1 := by
    rwa [BitVec.lt_def, afterR1Polls_cnt_toNat h0 (hbound.trans s.nR1.isLt)]
  rw [controllerStep_waitR1 (by simpa using hctl), afterR1Polls_nR1, if_pos hlt, rxNext_of_cons rfl,
    pollR1_afterR1Polls]

/-- Within the bound WAIT_R1 goes on for as long as no valid byte is received. -/
theorem controllerRun_waitR1_invalid {answers rest : List Byte} (hctl : s.ctl = .waitR1) (h0 : s.cnt = 0)
    (hinvalid : ∀ x ∈ answers, x.msb = true) (hrx : s.rxQueue = answers ++ rest) (hbound : answers.length ≤ s.nR1.toNat) :
    controllerRun answers.length s = .next (afterR1Polls answers rest s) := by
  induction answers using List.reverseRecOn generalizing rest with
  | nil => exact congrArg Host.Outcome.next (afterR1Polls_nil hrx).symm
  | append_singleton bs b ih =>
    rw [List.length_append, List.length_singleton] at hbound ⊢
    have hbs : ∀ x ∈ bs, x.msb = true := fun x hx => hinvalid x (List.mem_append_left _ hx)
    have hb : b.msb = true := hinvalid b (by simp)
    have hrun := ih (rest := b :: rest) hbs (by simpa using hrx) (by omega)
    rw [controllerRun_add hrun, controllerRun_one, controllerStep_waitR1_afterR1Polls hctl h0 hbound, if_pos hb]

/-- A valid byte within the bound ends the wait. -/
theorem controllerRun_waitR1_valid {answers rest : List Byte} {b : Byte} (hctl : s.ctl = .waitR1) (h0 : s.cnt = 0)
    (hinvalid : ∀ x ∈ answers, x.msb = true) (hrx : s.rxQueue = answers ++ b :: rest) (hb : b.msb = false)
    (hbound : answers.length < s.nR1.toNat) :
    controllerRun (answers.length + 1) s = .next (endR1 (afterR1Polls (answers ++ [b]) rest s)) := by
  rw [controllerRun_add (controllerRun_waitR1_invalid hctl h0 hinvalid hrx hbound.le), controllerRun_one,
    controllerStep_waitR1_afterR1Polls hctl h0 hbound, hb]
  rfl

/-- With the bound exhausted the wait ends with the byte it last received. -/
theorem controllerRun_waitR1_exhausted {answers rest : List Byte} (hctl : s.ctl = .waitR1) (h0 : s.cnt = 0)
    (hinvalid : ∀ x ∈ answers, x.msb = true) (hrx : s.rxQueue = answers ++ rest)
    (hbound : answers.length = s.nR1.toNat) :
    controllerRun (answers.length + 1) s = .next (endR1 (afterR1Polls answers rest s)) := by
  have hge : ¬ (afterR1Polls answers rest s).cnt < s.nR1 := by
    rw [BitVec.lt_def, afterR1Polls_cnt_toNat h0 (hbound ▸ s.nR1.isLt), hbound]
    exact Nat.lt_irrefl _
  rw [controllerRun_add (controllerRun_waitR1_invalid hctl h0 hinvalid hrx hbound.le), controllerRun_one,
    controllerStep_waitR1 (by simpa using hctl), afterR1Polls_nR1, if_neg hge]

/-- The end of the wait, field by field, with `b` the last byte received. -/
theorem endR1_afterR1Polls (answers rest : List Byte) (b : Byte) (h0 : s.cnt = 0) :
    endR1 (afterR1Polls (answers ++ [b]) rest s) = { s with
      r1 := b, lastR1 := b, lastRx := b, cnt := BitVec.ofNat 32 (answers.length + 1), rxQueue := rest
      draws := s.draws + answers.length + 1
      trace := .xchg idleByte b :: exchanges (answers.map fun _ => idleByte) answers ++ s.trace
      ctl := .afterR1 } := by
  have htrace : exchanges ((answers ++ [b]).map fun _ => idleByte) (answers ++ [b]) =
      .xchg idleByte b :: exchanges (answers.map fun _ => idleByte) answers := by
    rw [List.map_append, exchanges_append (List.length_map _)]; rfl
  have hcnt (n : U32) : (0 : U32) + n = n := BitVec.zero_add n
  simp only [endR1, afterR1Polls, afterPolls, htrace, List.getLastD_concat, List.length_append, List.length_singleton,
    Nat.add_assoc, h0, hcnt]

/-! ## WAIT_READY -/

theorem timeNext_of_cons {r : U32} {times : List U32} (h : s.timeQueue = r :: times) : timeNext s = r := by
  simp [timeNext, h]

/-- The state of WAIT_READY after as many iterations as `answers` has bytes, none of them idle, with a time reading after each
(R121). -/
def afterBusyPolls (answers rest : List Byte) (readings times : List U32) (s : State) : State :=
  { s with
    lastRx := answers.getLastD s.lastRx
    rxQueue := rest
    timeQueue := times
    draws := s.draws + 2 * answers.length
    trace := busyPolls answers readings ++ s.trace }

/-- One iteration that a busy byte answers within the bound. -/
def busyPoll (s : State) : State := sampleTime (pollReady s)

theorem busyPolls_cons (b : Byte) (bs : List Byte) (r : U32) (rs : List U32) :
    busyPolls (b :: bs) (r :: rs) = busyPolls bs rs ++ [.now r, .xchg idleByte b] := by
  simp [busyPolls, idleByte]

theorem afterBusyPolls_nil {rest : List Byte} {times : List U32} (hrx : s.rxQueue = rest) (htime : s.timeQueue = times) :
    afterBusyPolls [] rest [] times s = s := by
  simp [afterBusyPolls, busyPolls, ← hrx, ← htime]

/-- The first answer is that of an iteration now. -/
theorem afterBusyPolls_cons {b : Byte} {bs rest : List Byte} {r : U32} {rs times : List U32}
    (hrx : s.rxQueue = b :: (bs ++ rest)) (htime : s.timeQueue = r :: (rs ++ times)) :
    afterBusyPolls (b :: bs) rest (r :: rs) times s = afterBusyPolls bs rest rs times (busyPoll s) := by
  have hdraws : s.draws + 2 * (bs.length + 1) = s.draws + 1 + 1 + 2 * bs.length := by omega
  have hlast : (b :: bs).getLastD s.lastRx = bs.getLastD b := List.getLastD_cons ..
  have hbyte : rxNext s = b := rxNext_of_cons hrx
  have hreading : timeNext (pollReady s) = r := timeNext_of_cons (s := pollReady s) htime
  simp only [afterBusyPolls, busyPoll, List.length_cons, busyPolls_cons, hdraws, hlast]
  simp [pollReady, hbyte, show timeNext (exchange idleByte s) = r from hreading]

/-- A busy answer is followed by the time test. -/
theorem controllerRun_readyPoll_busy {b : Byte} {rest : List Byte} (hctl : s.ctl = .readyPoll) (hrx : s.rxQueue = b :: rest)
    (hb : b ≠ idleByte) : controllerRun 2 s = .next (testReady (readyBusy (pollReady s))) := by
  have hpoll : controllerStep s = .next (readyBusy (pollReady s)) := by
    rw [controllerStep_readyPoll hctl, rxNext_of_cons hrx, if_neg hb]
  rw [controllerRun_succ hpoll, controllerRun_one, controllerStep_readyTest rfl]

/-- The state in which an expired WAIT_READY raises its error: `r1` is the 0xFF the command phase returns (R130). -/
def busyExpired (s : State) : State := { sampleTime (readyBusy (pollReady s)) with r1 := 0xFF }

/-- The test after a busy answer compares the next reading with the start of the wait. -/
theorem testReady_readyBusy_cases {r : U32} {times : List U32} (htime : s.timeQueue = r :: times) :
    (s.tReadyMs ≤ r - s.t0 ∧ testReady (readyBusy (pollReady s)) = raise .busyTimeout (busyExpired s)) ∨
    (r - s.t0 < s.tReadyMs ∧ testReady (readyBusy (pollReady s)) = { busyPoll s with ctl := .readyPoll }) := by
  have hreading : timeNext (readyBusy (pollReady s)) = r := timeNext_of_cons (s := readyBusy (pollReady s)) htime
  have hcases := testReady_cases (readyBusy (pollReady s))
  rw [hreading] at hcases
  obtain ⟨hge, h⟩ | ⟨hlt, h⟩ := hcases
  · exact .inl ⟨hge, h⟩
  · exact .inr ⟨BitVec.not_le.mp hlt, h⟩

/-- Within the bound WAIT_READY goes on for as long as the card is busy. -/
theorem controllerRun_readyPolls {answers rest : List Byte} {readings times : List U32} (hctl : s.ctl = .readyPoll)
    (hlen : readings.length = answers.length) (hrx : s.rxQueue = answers ++ rest) (htime : s.timeQueue = readings ++ times)
    (hbusy : ∀ x ∈ answers, x ≠ idleByte) (hwithin : ∀ r ∈ readings, r - s.t0 < s.tReadyMs) :
    controllerRun (2 * answers.length) s = .next (afterBusyPolls answers rest readings times s) := by
  induction answers generalizing s readings with
  | nil =>
    obtain rfl : readings = [] := List.length_eq_zero_iff.mp hlen
    exact congrArg Host.Outcome.next (afterBusyPolls_nil hrx htime).symm
  | cons b bs ih =>
    obtain ⟨r, rs, rfl⟩ : ∃ r rs, readings = r :: rs := List.exists_cons_of_length_eq_add_one hlen
    obtain ⟨hb, hbs⟩ := List.forall_mem_cons.mp hbusy
    obtain ⟨hr, hrs⟩ := List.forall_mem_cons.mp hwithin
    have hfirst : controllerRun 2 s = .next (busyPoll s) := by
      obtain ⟨hge, -⟩ | ⟨-, htest⟩ := testReady_readyBusy_cases htime
      · exact absurd hr (BitVec.not_lt.mpr hge)
      · rw [controllerRun_readyPoll_busy hctl hrx hb, htest, ← hctl]; rfl
    rw [List.length_cons, show 2 * (bs.length + 1) = 2 + 2 * bs.length by omega, controllerRun_add hfirst,
      afterBusyPolls_cons hrx htime]
    exact ih hctl (by simpa using hlen) (by simp [busyPoll, pollReady, hrx]) (by simp [busyPoll, pollReady, htime]) hbs hrs

/-- An expired WAIT_READY in one update: the answer, the reading, and the 0xFF of the command phase. -/
theorem busyExpired_eq {s : State} {b : Byte} {rest : List Byte} {r : U32} {times : List U32}
    (hrx : s.rxQueue = b :: rest) (htime : s.timeQueue = r :: times) :
    busyExpired s = { s with
      r1 := 0xFF, lastRx := b, rxQueue := rest, timeQueue := times, draws := s.draws + 2
      trace := .now r :: .xchg idleByte b :: s.trace, ctl := .readyTest } := by
  simp [busyExpired, pollReady, readyBusy, exchange, sampleTime, hrx, htime, rxNext, timeNext]

/-- A busy answer with the bound spent raises `BusyTimeout`. -/
theorem controllerRun_readyPoll_expired {s : State} {b : Byte} {rest : List Byte} {r : U32} {times : List U32}
    (hctl : s.ctl = .readyPoll) (hrx : s.rxQueue = b :: rest) (hb : b ≠ idleByte) (htime : s.timeQueue = r :: times)
    (hge : s.tReadyMs ≤ r - s.t0) : controllerRun 2 s = .next (raise .busyTimeout (busyExpired s)) := by
  obtain ⟨-, htest⟩ | ⟨hlt, -⟩ := testReady_readyBusy_cases htime
  · rw [controllerRun_readyPoll_busy hctl hrx hb, htest]
  · exact absurd hlt (BitVec.not_lt.mpr hge)

/-- An error with chip-select asserted runs through RELEASE to completion. -/
theorem controllerRun_raise_busyTimeout {s : State} (hcs : s.cs = true) :
    controllerRun 2 (raise .busyTimeout s) = .next (afterRelease (some .busyTimeout) s) := by
  rw [raise_of_cs hcs, controllerRun_release rfl, flushRelease_busyTimeout]
  rfl

/-! ## The counted waits end -/

/-- One step of a wait that counts up to `bound`: it ends in a state with `Q`, or it has made an exchange and counted it. -/
def CountedStep (c : Ctl) (bound : State → U32) (Q : State → Prop) (s t : State) : Prop :=
  (Q t ∧ t.draws = s.draws) ∨
  (s.cnt < bound s ∧ t.draws = s.draws + 1 ∧ (Q t ∨ (t.ctl = c ∧ t.cnt = s.cnt + 1 ∧ bound t = bound s)))

/-- Such a wait ends after at most as many exchanges as are left of its bound (R125). -/
theorem exists_controllerRun_of_countedStep {c : Ctl} {bound : State → U32} {Q : State → Prop}
    (hstep : ∀ s, s.ctl = c → ∃ t, controllerStep s = .next t ∧ CountedStep c bound Q s t) (hctl : s.ctl = c) :
    ∃ n t, n ≤ (bound s).toNat - s.cnt.toNat + 1 ∧ controllerRun n s = .next t ∧ Q t ∧
      t.draws ≤ s.draws + ((bound s).toNat - s.cnt.toNat) := by
  generalize hleft : (bound s).toNat - s.cnt.toNat = left
  induction left generalizing s with
  | zero =>
    obtain ⟨t, ht, ⟨hQ, hdraws⟩ | ⟨hlt, -⟩⟩ := hstep s hctl
    · exact ⟨1, t, by omega, by rw [controllerRun_one, ht], hQ, by omega⟩
    · rw [BitVec.lt_def] at hlt; omega
  | succ left ih =>
    obtain ⟨t, ht, ⟨hQ, hdraws⟩ | ⟨hlt, hdraws, hQ | ⟨hc, hcnt, hbound⟩⟩⟩ := hstep s hctl
    · exact ⟨1, t, by omega, by rw [controllerRun_one, ht], hQ, by omega⟩
    · exact ⟨1, t, by omega, by rw [controllerRun_one, ht], hQ, by omega⟩
    · have hnext : (bound t).toNat - t.cnt.toNat = left := by
        rw [BitVec.lt_def] at hlt
        have := (bound s).isLt
        rw [hbound, hcnt, BitVec.toNat_add, Nat.mod_eq_of_lt (by simp; omega)]
        simp; omega
      obtain ⟨n, u, hn, hrun, hQ, hu⟩ := ih hc hnext
      exact ⟨n + 1, u, by omega, by rw [controllerRun_succ ht, hrun], hQ, by omega⟩

theorem countedStep_waitR1 (hctl : s.ctl = .waitR1) :
    ∃ t, controllerStep s = .next t ∧ CountedStep .waitR1 State.nR1 (·.ctl = .afterR1) s t := by
  refine ⟨_, controllerStep_waitR1 hctl, ?_⟩
  by_cases hlt : s.cnt < s.nR1
  · rw [if_pos hlt]
    split
    · exact .inr ⟨hlt, rfl, .inr ⟨hctl, rfl, rfl⟩⟩
    · exact .inr ⟨hlt, rfl, .inl rfl⟩
  · rw [if_neg hlt]; exact .inl ⟨rfl, rfl⟩

/-- An error ends a wait with no exchange: the control point is RELEASE or rest. -/
theorem raise_leaves_wait (e : ErrorKind) (s : State) :
    (raise e s).ctl ≠ .waitToken ∧ (raise e s).ctl ≠ .waitProg ∧ (raise e s).draws = s.draws := by
  obtain ⟨-, h⟩ | ⟨-, h⟩ := raise_cases e s <;> rw [h] <;> exact ⟨nofun, nofun, rfl⟩

theorem countedStep_waitToken (hctl : s.ctl = .waitToken) :
    ∃ t, controllerStep s = .next t ∧ CountedStep .waitToken State.nToken (·.ctl ≠ .waitToken) s t := by
  refine ⟨_, controllerStep_waitToken hctl, ?_⟩
  by_cases hlt : s.cnt < s.nToken
  · rw [if_pos hlt]
    split
    · refine .inr ⟨hlt, ?_, .inl ?_⟩
      · rw [tokenFound]; split <;> rfl
      · rw [tokenFound]; split <;> exact nofun
    · exact .inr ⟨hlt, rfl, .inr ⟨hctl, rfl, rfl⟩⟩
  · obtain ⟨hne, -, hdraws⟩ := raise_leaves_wait .tokenTimeout s
    rw [if_neg hlt]; exact .inl ⟨hne, hdraws⟩

theorem countedStep_waitProg (hctl : s.ctl = .waitProg) :
    ∃ t, controllerStep s = .next t ∧ CountedStep .waitProg State.nProg (·.ctl ≠ .waitProg) s t := by
  refine ⟨_, controllerStep_waitProg hctl, ?_⟩
  by_cases hlt : s.cnt < s.nProg
  · rw [if_pos hlt]
    split
    · exact .inr ⟨hlt, rfl, .inl nofun⟩
    · exact .inr ⟨hlt, rfl, .inr ⟨hctl, rfl, rfl⟩⟩
  · obtain ⟨-, hne, hdraws⟩ := raise_leaves_wait .busyTimeout s
    rw [if_neg hlt]; exact .inl ⟨hne, hdraws⟩

end

end Sys2Proof.Machine

namespace Sys2Proof

open Machine

/-- Settles O26: the invalid bytes are polled one by one, and the wait ends on a valid one or with its bound. -/
theorem waitR1ReturnsFirstValidOrLastByte : Obligations.WaitR1ReturnsFirstValidOrLastByte := by
  unfold Obligations.WaitR1ReturnsFirstValidOrLastByte
  intro s busyBytes rest b hctl h0 hinvalid
  refine ⟨fun hrx hb hbound => ?valid, fun hrx hb hbound => ?exhausted, fun hn hr1 => ?none⟩
  case valid =>
    rw [controllerRun_waitR1_valid hctl h0 hinvalid hrx hb hbound, endR1_afterR1Polls _ _ _ h0]
    rfl
  case exhausted =>
    have hall : ∀ x ∈ busyBytes ++ [b], x.msb = true := List.forall_mem_append.mpr ⟨hinvalid, by simpa using hb⟩
    have hlen : (busyBytes ++ [b]).length = s.nR1.toNat := by simpa using hbound
    have hrun := controllerRun_waitR1_exhausted (rest := rest) hctl h0 hall (by simpa using hrx) hlen
    rw [List.length_append, List.length_singleton, endR1_afterR1Polls _ _ _ h0, hbound, BitVec.ofNat_toNat,
      BitVec.setWidth_eq] at hrun
    rw [show busyBytes.length + 2 = s.nR1.toNat + 1 by omega, hrun]
    rfl
  case none =>
    have hge : ¬ s.cnt < s.nR1 := by rw [h0, hn]; exact BitVec.not_lt_zero
    rw [controllerRun_one, controllerStep_waitR1 hctl, if_neg hge, endR1, hr1]

/-- Settles O29: the first reading, the busy polls with a reading after each, and the idle byte that ends them. -/
theorem readyWaitEndsOnAnIdleByte : Obligations.ReadyWaitEndsOnAnIdleByte := by
  unfold Obligations.ReadyWaitEndsOnAnIdleByte
  intro s busyBytes rest start readings times hctl htime hrx hlen hbusy hwithin
  have hreading : timeNext s = start := timeNext_of_cons htime
  have hqueue : (startReady s).timeQueue = readings ++ times := by simp [startReady, htime]
  have hpolls := controllerRun_readyPolls (s := startReady s) (rest := idleByte :: rest) rfl hlen hrx hqueue hbusy
    (by rw [show (startReady s).t0 = start from hreading]; exact hwithin)
  have hidle : controllerStep (afterBusyPolls busyBytes (idleByte :: rest) readings times (startReady s)) = .next
      { pollReady (afterBusyPolls busyBytes (idleByte :: rest) readings times (startReady s)) with ctl := .frame 0 } := by
    rw [controllerStep_readyPoll rfl, rxNext_of_cons rfl, if_pos rfl]
  have hdraws : s.draws + 1 + 2 * busyBytes.length + 1 = s.draws + 2 * busyBytes.length + 2 := by omega
  rw [show 2 * busyBytes.length + 2 = (2 * busyBytes.length + 1) + 1 by omega,
    controllerRun_succ (controllerStep_readyTime hctl), controllerRun_add hpolls, controllerRun_one, hidle]
  simp [pollReady, exchange, afterBusyPolls, startReady, sampleTime, rxNext, hreading, hdraws, idleByte]

/-- Settles O30: the busy byte, the time test that fails, RELEASE and its flush byte. -/
theorem readyWaitExpiryIsBusyTimeout : Obligations.ReadyWaitExpiryIsBusyTimeout := by
  unfold Obligations.ReadyWaitExpiryIsBusyTimeout
  intro s b flush rest reading times hctl hcs hrx hb htime hge
  have hexpired := controllerRun_readyPoll_expired hctl hrx hb htime hge
  rw [busyExpired_eq hrx htime] at hexpired
  rw [show (4 : Nat) = 2 + 2 from rfl, controllerRun_add hexpired]
  refine ⟨_, controllerRun_raise_busyTimeout hcs, ?_⟩
  simp [afterRelease, exchange, releaseCs, csDeassert, complete, rxNext, idleByte]

/-- Settles O31: each step of a counted wait ends it or uses up one of its bound. -/
theorem countedWaitsTerminate : Obligations.CountedWaitsTerminate := by
  unfold Obligations.CountedWaitsTerminate
  exact fun s => ⟨exists_controllerRun_of_countedStep fun _ => countedStep_waitR1,
    exists_controllerRun_of_countedStep fun _ => countedStep_waitToken,
    exists_controllerRun_of_countedStep fun _ => countedStep_waitProg⟩

end Sys2Proof
end

section
/-! CMD_PHASE and the reply of EXECUTE (R130, R131): runs of exchanges with a queue of any length, and the bytes kept. -/

namespace Sys2Proof.Machine

/-! ## Exchanges whatever the queue holds -/

/-- What the exchange after `k` others receives: the queue's byte, or the environment's where the queue is spent. -/
def answer (s : State) (k : Nat) : Byte := s.rxQueue.getD k (Config.freeRx (s.draws + k))

/-- The answers to the next `n` exchanges. -/
def answers (s : State) (n : Nat) : List Byte := (List.range n).map (answer s)

theorem answers_length (s : State) (n : Nat) : (answers s n).length = n := by simp [answers]

theorem answers_succ (s : State) (n : Nat) : answers s (n + 1) = answers s n ++ [answer s n] := by
  simp [answers, List.range_succ]

/-- Where the queue has a byte, it is the answer. -/
theorem answers_take (s : State) (n : Nat) : (answers s n).take s.rxQueue.length = s.rxQueue.take n := by
  refine List.ext_getElem (by simp [answers, Nat.min_comm]) fun k hk _ => ?_
  have hlt : k < s.rxQueue.length := by simp at hk; omega
  simp [answers, answer, hlt]

/-- The state after the bytes `sent`, whatever is received for them. -/
def afterSends (sent : List Byte) (s : State) : State :=
  { s with
    lastRx := (answers s sent.length).getLastD s.lastRx
    rxQueue := s.rxQueue.drop sent.length
    draws := s.draws + sent.length
    trace := exchanges sent (answers s sent.length) ++ s.trace }

theorem rxNext_afterSends (sent : List Byte) (s : State) : rxNext (afterSends sent s) = answer s sent.length := by
  have hqueue : (s.rxQueue.drop sent.length).head? = s.rxQueue[sent.length]? := List.head?_drop
  simp only [answer, List.getD_eq_getElem?_getD, ← hqueue]
  cases hdrop : s.rxQueue.drop sent.length with
  | nil => simp [rxNext, afterSends, hdrop]
  | cons b rest => simp [rxNext, afterSends, hdrop]

/-- The last byte is sent after all the others. -/
theorem exchange_afterSends (tx : Byte) (sent : List Byte) (s : State) :
    exchange tx (afterSends sent s) = afterSends (sent ++ [tx]) s := by
  have htrace : exchanges (sent ++ [tx]) (answers s sent.length ++ [answer s sent.length]) =
      .xchg tx (answer s sent.length) :: exchanges sent (answers s sent.length) :=
    exchanges_append (answers_length s _).symm
  rw [exchange, rxNext_afterSends]
  simp [afterSends, htrace, answers_succ, Nat.add_assoc]

/-! ## CMD_PHASE -/

/-- CMD_PHASE with the bytes `sent`, at the control point `c`. -/
def inFrame (c : Ctl) (sent : List Byte) (s : State) : State := { afterSends sent s with ctl := c }

theorem controllerStep_inFrame {k : Fin 6} {c : Ctl} (sent : List Byte) (s : State)
    (hc : (if k = 5 then .frameFlush else .frame (k + 1)) = c) :
    controllerStep (inFrame (.frame k) sent s) = .next (inFrame c (sent ++ [frameByte s.frame k]) s) := by
  have hsend : sendFrame k (inFrame (.frame k) sent s) =
      { exchange (frameByte s.frame k) (afterSends sent s) with ctl := if k = 5 then .frameFlush else .frame (k + 1) } := rfl
  rw [controllerStep_frame rfl, hsend, hc, exchange_afterSends, inFrame]

theorem controllerStep_inFrame_flush (sent : List Byte) (s : State) :
    controllerStep (inFrame .frameFlush sent s) = .next (startR1 (afterSends (sent ++ [idleByte]) s)) := by
  have hflush : flushFrame (inFrame .frameFlush sent s) = startR1 (exchange idleByte (afterSends sent s)) := rfl
  rw [controllerStep_frameFlush rfl, hflush, exchange_afterSends]

/-- The bytes of CMD_PHASE: the frame and the flush byte. -/
def commandBytes (f : Frame) : List Byte :=
  [frameByte f 0, frameByte f 1, frameByte f 2, frameByte f 3, frameByte f 4, frameByte f 5, idleByte]

theorem controllerRun_frame {s : State} (hctl : s.ctl = .frame 0) :
    controllerRun 7 s = .next (startR1 (afterSends (commandBytes s.frame) s)) := by
  have hstart : inFrame (.frame 0) [] s = s := by rw [← hctl]; simp [inFrame, afterSends, answers, exchanges]
  conv_lhs => rw [← hstart]
  rw [controllerRun_succ (controllerStep_inFrame (c := .frame 1) _ s rfl),
    controllerRun_succ (controllerStep_inFrame (c := .frame 2) _ s rfl),
    controllerRun_succ (controllerStep_inFrame (c := .frame 3) _ s rfl),
    controllerRun_succ (controllerStep_inFrame (c := .frame 4) _ s rfl),
    controllerRun_succ (controllerStep_inFrame (c := .frame 5) _ s rfl),
    controllerRun_succ (controllerStep_inFrame (c := .frameFlush) _ s rfl),
    controllerRun_one, controllerStep_inFrame_flush]
  rfl

end Sys2Proof.Machine

namespace Sys2Proof

open Machine

/-- Settles O21: the bytes are those of `commandBytes`, and the answers those of the queue or of the environment. -/
theorem frameAndFlushAreSentInOrder : Obligations.FrameAndFlushAreSentInOrder := by
  unfold Obligations.FrameAndFlushAreSentInOrder
  intro s hctl
  exact ⟨_, answers s 7, controllerRun_frame hctl, answers_length s 7, answers_take s 7, rfl⟩

end Sys2Proof
end

section
/-! Bytes received into a register, the reply of EXECUTE, and RELEASE (R131, R132). -/

namespace Sys2Proof.Machine

/-! ## Bytes pushed into a register -/

/-- The byte pushed last is the low one. -/
theorem pushByte_low {n : Nat} (x : BitVec n) (b : Byte) (hn : 8 ≤ n) : (pushByte x b).extractLsb' 0 8 = b := by
  apply BitVec.eq_of_getLsbD_eq
  intro i hi
  have hin : i < n := by omega
  simp [pushByte, hi, hin]

/-- The bytes pushed before it move up by one place. -/
theorem pushByte_high {n : Nat} (x : BitVec n) (b : Byte) (j : Nat) (hj : 8 * (j + 2) ≤ n) :
    (pushByte x b).extractLsb' (8 * (j + 1)) 8 = x.extractLsb' (8 * j) 8 := by
  apply BitVec.eq_of_getLsbD_eq
  intro i hi
  have hin : 8 * (j + 1) + i < n := by omega
  have hplace : 8 * (j + 1) + i - 8 = 8 * j + i := by omega
  have hge : ¬ 8 * (j + 1) + i < 8 := by omega
  have hb : b.getLsbD (8 * (j + 1) + i) = false := BitVec.getLsbD_of_ge _ _ (by omega)
  have hx : x[8 * j + i]'(by omega) = x.getLsbD (8 * j + i) := (BitVec.getLsbD_eq_getElem _).symm
  simp [pushByte, hi, hin, hplace, hge, hb, hx]

/-- Where a register holds as many bytes as are pushed, each of them can be read back, the first one highest. -/
theorem foldl_pushByte_byte {n : Nat} (bytes : List Byte) (x : BitVec n) (hn : 8 * bytes.length ≤ n) {k : Nat}
    (hk : k < bytes.length) :
    (bytes.foldl pushByte x).extractLsb' (8 * (bytes.length - 1 - k)) 8 = bytes.getD k 0 := by
  induction bytes using List.reverseRecOn with
  | nil => exact absurd hk (Nat.not_lt_zero k)
  | append_singleton bs b ih =>
    rw [List.length_append, List.length_singleton] at hn hk ⊢
    rw [List.foldl_concat]
    obtain hlt | rfl : k < bs.length ∨ k = bs.length := by omega
    · rw [show bs.length + 1 - 1 - k = (bs.length - 1 - k) + 1 by omega, pushByte_high _ _ _ (by omega),
        ih (by omega) hlt, List.getD_append _ _ _ _ hlt]
    · rw [show 8 * (bs.length + 1 - 1 - bs.length) = 0 by omega, pushByte_low _ _ (by omega)]
      simp

/-- Four bytes fill a word, in order. -/
theorem pushByte_word (x : U32) (b0 b1 b2 b3 : Byte) :
    [b0, b1, b2, b3].foldl pushByte x = b0 ++ b1 ++ b2 ++ b3 := by
  apply BitVec.eq_of_getLsbD_eq
  intro i hi
  simp only [List.foldl, pushByte, BitVec.getLsbD_append]
  interval_cases i <;> simp

/-! ## The reply -/

/-- EXECUTE at the control point `c` with the reply bytes received so far (R132). -/
def inReply (c : Ctl) (bytes rest : List Byte) (s : State) : State :=
  { afterExchanges (bytes.map fun _ => idleByte) bytes rest s with rep := bytes.foldl pushByte s.rep, ctl := c }

theorem controllerStep_inReply {k : Fin 4} {c : Ctl} (bytes rest : List Byte) (b : Byte) (s : State)
    (hc : (if k = 3 then .release none else .reply (k + 1)) = c) :
    controllerStep (inReply (.reply k) bytes (b :: rest) s) = .next (inReply c (bytes ++ [b]) rest s) := by
  have hrecv : recvReply k (inReply (.reply k) bytes (b :: rest) s) =
      { exchange idleByte (afterExchanges (bytes.map fun _ => idleByte) bytes (b :: rest) s) with
        rep := pushByte (bytes.foldl pushByte s.rep) b
        ctl := if k = 3 then .release none else .reply (k + 1) } := rfl
  rw [controllerStep_reply rfl, hrecv, hc, exchange_afterExchanges (List.length_map _), inReply, List.map_append,
    List.foldl_concat]
  rfl

theorem afterR1_of_reply {s : State} (hcmd : s.cmd = .cmd8 ∨ s.cmd = .cmd58) : afterR1 s = startReply s := by
  obtain h | h := hcmd <;> simp only [afterR1, h]

theorem afterR1_of_noReply {s : State} (hcmd : s.cmd ∈ [Command.cmd0, .cmd55, .acmd41, .cmd16]) : afterR1 s = noReply s := by
  simp only [List.mem_cons, List.not_mem_nil, or_false] at hcmd
  obtain h | h | h | h := hcmd <;> simp only [afterR1, h]

theorem controllerRun_reply {s : State} {b0 b1 b2 b3 : Byte} {rest : List Byte} (hctl : s.ctl = .afterR1)
    (hcmd : s.cmd = .cmd8 ∨ s.cmd = .cmd58) (hrx : s.rxQueue = b0 :: b1 :: b2 :: b3 :: rest) :
    controllerRun 5 s = .next (inReply (.release none) [b0, b1, b2, b3] rest s) := by
  have hstart : startReply s = inReply (.reply 0) [] (b0 :: b1 :: b2 :: b3 :: rest) s := by
    simp [inReply, startReply, afterExchanges, exchanges, ← hrx]
  rw [controllerRun_succ (controllerStep_afterR1 hctl), afterR1_of_reply hcmd, hstart,
    controllerRun_succ (controllerStep_inReply (c := .reply 1) _ _ _ s rfl),
    controllerRun_succ (controllerStep_inReply (c := .reply 2) _ _ _ s rfl),
    controllerRun_succ (controllerStep_inReply (c := .reply 3) _ _ _ s rfl),
    controllerRun_one, controllerStep_inReply (c := .release none) _ _ _ s rfl]
  rfl

/-! ## RELEASE -/

/-- What the step after the flush byte of RELEASE leaves as it is. -/
def released (s : State) : Bool × List BusEvent × Byte × List Byte × Nat × Byte × Memory × BitVec 16 × Descriptor :=
  (s.cs, s.trace, s.lastRx, s.rxQueue, s.draws, s.r1, s.buf, s.rcrc, s.cd)

theorem released_ite {c : Prop} [Decidable c] {s t u : State} (ht : released t = released s) (hu : released u = released s) :
    released (if c then t else u) = released s := by
  split
  · exact ht
  · exact hu

theorem released_raise (e : ErrorKind) (s : State) : released (raise e s) = released s := released_ite rfl rfl

theorem released_afterTransaction (s : State) : released (afterTransaction s) = released s := by
  unfold afterTransaction
  split
  · exact released_ite (released_raise _ s) rfl
  · exact released_ite (released_raise _ { s with diagIfcond := s.rep }) rfl
  · rfl
  · exact released_ite rfl rfl
  · exact released_ite rfl (released_raise _ s)
  · exact released_ite rfl rfl
  · exact released_ite rfl (released_raise _ s)
  · rfl
  · rfl

/-- RELEASE deasserts chip-select and then makes one exchange (R131). -/
theorem released_flushRelease {s : State} {b : Byte} {rest : List Byte} (hrx : s.rxQueue = b :: rest) :
    released (flushRelease none (releaseCs none s)) =
      (false, .xchg idleByte b :: .csDeassert :: s.trace, b, rest, s.draws + 1, s.r1, s.buf, s.rcrc, s.cd) := by
  rw [flushRelease, released_afterTransaction]
  simp [released, releaseCs, csDeassert, exchange, rxNext, hrx]

end Sys2Proof.Machine

namespace Sys2Proof

open Machine

/-- Settles O33: the reply is four pushes into one word, and what follows the flush byte leaves the bus as it is. -/
theorem replyIsKeptInOrder : Obligations.ReplyIsKeptInOrder := by
  unfold Obligations.ReplyIsKeptInOrder
  refine ⟨?reply, ?noReply, ?release⟩
  case reply =>
    intro s b0 b1 b2 b3 rest hctl hcmd hrx
    rw [controllerRun_reply hctl hcmd hrx, inReply, pushByte_word]
    rfl
  case noReply =>
    intro s hctl hcmd
    rw [controllerStep_afterR1 hctl, afterR1_of_noReply hcmd, noReply]
  case release =>
    intro s b rest hctl hrx
    have hreleased := released_flushRelease hrx
    simp only [released, Prod.mk.injEq] at hreleased
    exact ⟨controllerStep_release hctl, _, controllerRun_release hctl, hreleased⟩

end Sys2Proof
end

section
/-! INIT: the idle bytes of step 1, the CSD of step 6 and its parse (R142, R147 to R149). -/

namespace Sys2Proof.Machine

theorem ctl_update_self {c : Ctl} {s : State} (h : s.ctl = c) : { s with ctl := c } = s := by rw [← h]

/-! ## Step 1 -/

/-- Step 1 after the exchanges with `received` (R142). -/
def inSync (received rest : List Byte) (s : State) : State :=
  { afterExchanges (received.map fun _ => idleByte) received rest s with ctl := .sync (BitVec.ofNat 32 received.length) }

theorem inSync_nil {rest : List Byte} {s : State} (hctl : s.ctl = .sync 0) (hrx : s.rxQueue = rest) :
    inSync [] rest s = s := by
  rw [inSync, List.map_nil, afterExchanges_nil hrx]; exact ctl_update_self hctl

/-- Below its count step 1 sends one more idle byte. -/
theorem controllerStep_inSync {received rest : List Byte} {b : Byte} {s : State} (hlt : received.length < s.nSync.toNat) :
    controllerStep (inSync received (b :: rest) s) = .next (inSync (received ++ [b]) rest s) := by
  have hbound : BitVec.ofNat 32 received.length < s.nSync := by
    have := s.nSync.isLt
    rw [BitVec.lt_def, BitVec.toNat_ofNat, Nat.mod_eq_of_lt (by omega)]
    exact hlt
  have hsync : syncStep (BitVec.ofNat 32 received.length) (inSync received (b :: rest) s) =
      { exchange idleByte (afterExchanges (received.map fun _ => idleByte) received (b :: rest) s) with
        ctl := .sync (BitVec.ofNat 32 received.length + 1) } := if_pos hbound
  rw [controllerStep_sync rfl, hsync, exchange_afterExchanges (List.length_map _), inSync, List.map_append,
    List.length_append, BitVec.ofNat_add]
  rfl

/-- With its count reached step 1 goes on to command 0. -/
theorem controllerStep_inSync_done {received rest : List Byte} {s : State} (hlen : received.length = s.nSync.toNat) :
    controllerStep (inSync received rest s) = .next (callCommand .cmd0 opcGoIdle argZero (inSync received rest s)) := by
  have hsent : BitVec.ofNat 32 received.length = s.nSync := by rw [hlen, BitVec.ofNat_toNat, BitVec.setWidth_eq]
  obtain ⟨hlt, -⟩ | ⟨-, hcall⟩ := syncStep_cases (BitVec.ofNat 32 received.length) (inSync received rest s)
  · rw [hsent] at hlt; exact absurd hlt (BitVec.lt_irrefl s.nSync)
  · rw [controllerStep_sync rfl, hcall]

theorem controllerRun_inSync {received rest : List Byte} {s : State} (hctl : s.ctl = .sync 0)
    (hrx : s.rxQueue = received ++ rest) (hlen : received.length ≤ s.nSync.toNat) :
    controllerRun received.length s = .next (inSync received rest s) := by
  induction received using List.reverseRecOn generalizing rest with
  | nil => exact congrArg Host.Outcome.next (inSync_nil hctl hrx).symm
  | append_singleton bs b ih =>
    rw [List.length_append, List.length_singleton] at hlen ⊢
    have hrun := ih (rest := b :: rest) (by simpa using hrx) (by omega)
    rw [controllerRun_add hrun, controllerRun_one, controllerStep_inSync hlen]

/-! ## The parse -/

/-- The version is the two high bits of the first byte (R148). -/
theorem csdVersion_toNat (csd : BitVec 128) : (csdVersion csd).toNat = (csdByte csd 0).toNat / 64 := by
  have := (csdByte csd 0).isLt
  rw [csdVersion, BitVec.extractLsb'_toNat, Nat.shiftRight_eq_div_pow]
  omega

theorem csdVersion_eq_one_iff (csd : BitVec 128) : csdVersion csd = 1 ↔ (csdByte csd 0).toNat / 64 = 1 := by
  rw [← csdVersion_toNat, ← BitVec.toNat_inj]
  rfl

/-- Bytes put side by side are the digits of a number. -/
theorem toNat_append_byte {n : Nat} (x : BitVec n) (b : Byte) : (x ++ b).toNat = x.toNat * 256 + b.toNat := by
  rw [BitVec.toNat_append, ← Nat.shiftLeft_add_eq_or_of_lt b.isLt, Nat.shiftLeft_eq]

/-- The size field is six bits and two bytes (R148). -/
theorem csdSizefield_toNat (csd : BitVec 128) : (csdSizefield csd).toNat =
    (csdByte csd 7).toNat % 64 * 65536 + (csdByte csd 8).toNat * 256 + (csdByte csd 9).toNat := by
  rw [csdSizefield, toNat_append_byte, toNat_append_byte, BitVec.extractLsb'_toNat, Nat.shiftRight_zero]
  omega

theorem parseCsd_of_version {csd : BitVec 128} {w : Descriptor} (h : csdVersion csd = 1) : parseCsd csd w =
    { isHc := w.isHc, csdVer := 1, sizefield := (csdSizefield csd).setWidth 32
      blockcount := ((csdSizefield csd).setWidth 32 + 1) * 1024
      bytesize := ((csdSizefield csd).setWidth 32 + 1) * 1024 * 512 } := if_pos h

theorem parseCsd_of_other {csd : BitVec 128} {w : Descriptor} (h : csdVersion csd ≠ 1) : parseCsd csd w =
    { isHc := w.isHc, csdVer := csdVersion csd, sizefield := 0, blockcount := 0, bytesize := 0 } := if_neg h

/-! ## The CSD -/

/-- The control point after `n` bytes of the CSD. -/
def csdPoint (n : Nat) : Ctl := if h : n < 16 then .csd ⟨n, h⟩ else .csdCheck 0

theorem csdPoint_succ {n : Nat} (h : n < 16) :
    (if (⟨n, h⟩ : Fin 16) = 15 then .csdCheck 0 else .csd (⟨n, h⟩ + 1)) = csdPoint (n + 1) := by
  interval_cases n <;> rfl

/-- Step 6 at the control point `c`, with the bytes received so far and the CSD kept of them (R147). -/
def atCsd (c : Ctl) (csd : BitVec 128) (received rest : List Byte) (s : State) : State :=
  { afterExchanges (received.map fun _ => idleByte) received rest s with csd := csd, ctl := c }

/-- Step 6 with the bytes of the CSD received so far. -/
def inCsd (bytes rest : List Byte) (s : State) : State :=
  atCsd (csdPoint bytes.length) (bytes.foldl pushByte s.csd) bytes rest s

theorem inCsd_nil {rest : List Byte} {s : State} (hctl : s.ctl = .csd 0) (hrx : s.rxQueue = rest) : inCsd [] rest s = s := by
  rw [inCsd, atCsd, List.map_nil, afterExchanges_nil hrx]; exact ctl_update_self hctl

theorem controllerStep_inCsd {bytes rest : List Byte} {b : Byte} {s : State} (hlen : bytes.length < 16) :
    controllerStep (inCsd bytes (b :: rest) s) = .next (inCsd (bytes ++ [b]) rest s) := by
  have hctl : (inCsd bytes (b :: rest) s).ctl = .csd ⟨bytes.length, hlen⟩ := dif_pos hlen
  have hrecv : recvCsd ⟨bytes.length, hlen⟩ (inCsd bytes (b :: rest) s) =
      { exchange idleByte (afterExchanges (bytes.map fun _ => idleByte) bytes (b :: rest) s) with
        csd := pushByte (bytes.foldl pushByte s.csd) b
        ctl := if (⟨bytes.length, hlen⟩ : Fin 16) = 15 then .csdCheck 0 else .csd (⟨bytes.length, hlen⟩ + 1) } := rfl
  rw [controllerStep_csd hctl, hrecv, csdPoint_succ hlen, exchange_afterExchanges (List.length_map _), inCsd,
    atCsd, List.map_append, List.foldl_concat, List.length_append]
  rfl

theorem controllerRun_inCsd {bytes rest : List Byte} {s : State} (hctl : s.ctl = .csd 0)
    (hrx : s.rxQueue = bytes ++ rest) (hlen : bytes.length ≤ 16) :
    controllerRun bytes.length s = .next (inCsd bytes rest s) := by
  induction bytes using List.reverseRecOn generalizing rest with
  | nil => exact congrArg Host.Outcome.next (inCsd_nil hctl hrx).symm
  | append_singleton bs b ih =>
    rw [List.length_append, List.length_singleton] at hlen ⊢
    have hrun := ih (rest := b :: rest) (by simpa using hrx) (by omega)
    rw [controllerRun_add hrun, controllerRun_one, controllerStep_inCsd hlen]

/-- A check byte is discarded. -/
theorem controllerStep_atCsd_check {k : Fin 2} {c : Ctl} (csd : BitVec 128) (received rest : List Byte) (b : Byte) (s : State)
    (hc : (if k = 1 then .release none else .csdCheck 1) = c) :
    controllerStep (atCsd (.csdCheck k) csd received (b :: rest) s) = .next (atCsd c csd (received ++ [b]) rest s) := by
  have hrecv : recvCsdCheck k (atCsd (.csdCheck k) csd received (b :: rest) s) =
      { exchange idleByte (afterExchanges (received.map fun _ => idleByte) received (b :: rest) s) with
        csd := csd, ctl := if k = 1 then .release none else .csdCheck 1 } := rfl
  rw [controllerStep_csdCheck rfl, hrecv, hc, exchange_afterExchanges (List.length_map _), atCsd, List.map_append]
  rfl

/-- Step 6 from its token to RELEASE. -/
theorem controllerRun_csd {csd rest : List Byte} {check0 check1 : Byte} {s : State} (hctl : s.ctl = .csd 0)
    (hlen : csd.length = 16) (hrx : s.rxQueue = csd ++ check0 :: check1 :: rest) :
    controllerRun 18 s =
      .next (atCsd (.release none) (csd.foldl pushByte s.csd) (csd ++ [check0] ++ [check1]) rest s) := by
  have hcsd : controllerRun 16 s = .next (inCsd csd (check0 :: check1 :: rest) s) :=
    hlen ▸ controllerRun_inCsd hctl hrx hlen.le
  rw [show (18 : Nat) = 16 + 2 from rfl, controllerRun_add hcsd, inCsd, hlen,
    show csdPoint 16 = .csdCheck 0 from rfl,
    controllerRun_succ (controllerStep_atCsd_check (k := 0) (c := .csdCheck 1) _ _ _ _ s rfl), controllerRun_one,
    controllerStep_atCsd_check (c := .release none) _ _ _ _ s rfl]

/-- RELEASE of command 9, its flush byte, and the parse (R147 to R149). -/
theorem controllerRun_release_cmd9 {s : State} (hctl : s.ctl = .release none) (hcmd : s.cmd = .cmd9) :
    controllerRun 2 s = .next (afterCmd9 (exchange idleByte (releaseCs none s))) := by
  have hafter : afterTransaction (exchange idleByte (releaseCs none s)) = afterCmd9 (exchange idleByte (releaseCs none s)) := by
    rw [afterTransaction, show (exchange idleByte (releaseCs none s)).cmd = .cmd9 from hcmd]
  rw [controllerRun_release hctl, flushRelease, hafter]

/-- The CSD is stored and parsed, and step 7 follows for a card that is not high-capacity (R148, R149). -/
theorem afterCmd9_eq (s : State) : afterCmd9 s = { s with
    diagCsd := s.csd, w := parseCsd s.csd s.w
    cmd := if s.w.isHc then s.cmd else .cmd16
    ctl := if s.w.isHc then .raiseBaud else .encode opcSetBlocklen argBlocklen } := by
  unfold afterCmd9 callCommand
  split <;> rfl

/-- Sixteen bytes fill the CSD, in order. -/
theorem csdByte_foldl_pushByte {bytes : List Byte} (x : BitVec 128) (hlen : bytes.length = 16) (k : Fin 16) :
    csdByte (bytes.foldl pushByte x) k = bytes.getD k.val 0 := by
  have hbyte := foldl_pushByte_byte bytes x (by omega) (k := k.val) (by omega)
  rwa [hlen, show 8 * (16 - 1 - k.val) = 120 - 8 * k.val by omega] at hbyte

end Sys2Proof.Machine

namespace Sys2Proof

open Machine

/-- Settles O34: one idle byte for one count, and the test of the count ends the step. -/
theorem syncSendsExactlyNSyncIdleBytes : Obligations.SyncSendsExactlyNSyncIdleBytes := by
  unfold Obligations.SyncSendsExactlyNSyncIdleBytes
  intro s received rest hctl hrx hlen
  refine ⟨callCommand .cmd0 opcGoIdle argZero (inSync received rest s), ?_, rfl, rfl, rfl, rfl, rfl⟩
  rw [controllerRun_add (controllerRun_inSync hctl hrx hlen.le), controllerRun_one, controllerStep_inSync_done hlen]

/-- Settles O37: the fields are digits of the CSD, and the sizes products modulo 2^32. -/
theorem csdParseGivesTheCapacity : Obligations.CsdParseGivesTheCapacity := by
  unfold Obligations.CsdParseGivesTheCapacity
  intro csd w
  rw [← csdVersion_eq_one_iff, ← csdVersion_toNat]
  by_cases h : csdVersion csd = 1
  · rw [parseCsd_of_version h, h]
    refine ⟨rfl, rfl, fun _ => ⟨?_, ?_, ?_⟩, fun hne => absurd rfl hne⟩
    · rw [← csdSizefield_toNat, BitVec.toNat_setWidth_of_le (by decide)]
    · rw [BitVec.toNat_mul, BitVec.toNat_add]; exact Nat.mod_mul_mod ..
    · rw [BitVec.toNat_mul]; rfl
  · rw [parseCsd_of_other h]
    exact ⟨rfl, rfl, fun h1 => absurd h1 h, fun _ => ⟨rfl, rfl, rfl⟩⟩

/-- Settles O38: the sixteen bytes are pushes into one register, the check bytes exchanges that leave it, and RELEASE parses. -/
theorem csdIsReadWithoutItsCheck : Obligations.CsdIsReadWithoutItsCheck := by
  unfold Obligations.CsdIsReadWithoutItsCheck
  intro s csd check0 check1 flush rest hctl hcmd hlen hrx
  rw [show (20 : Nat) = 18 + 2 from rfl, controllerRun_add (controllerRun_csd hctl hlen hrx)]
  refine ⟨_, controllerRun_release_cmd9 rfl hcmd, ?_⟩
  rw [afterCmd9_eq]
  refine ⟨csdByte_foldl_pushByte s.csd hlen, ?_⟩
  simp [exchange, releaseCs, csDeassert, atCsd, afterExchanges, rxNext, hlen, idleByte, argBlocklen]

end Sys2Proof
end

section
/-! The burst of READ: payload into the buffer, check field into RCRC, and the tests (R163 to R165, R167). -/

namespace Sys2Proof.Machine

/-! ## Bytes stored in order -/

/-- The memory with `bytes` at the addresses from 0. -/
def storeBytes (m : Memory) (bytes : List Byte) : Memory :=
  bytes.zipIdx.foldl (fun mem entry => Memory.set mem entry.2 entry.1) m

theorem storeBytes_concat (m : Memory) (bytes : List Byte) (b : Byte) :
    storeBytes m (bytes ++ [b]) = Memory.set (storeBytes m bytes) bytes.length b := by
  simp [storeBytes, List.zipIdx_append]

theorem get_storeBytes (m : Memory) (bytes : List Byte) (k : Nat) :
    Memory.get (storeBytes m bytes) k = if k < bytes.length then some (bytes.getD k 0) else Memory.get m k := by
  induction bytes using List.reverseRecOn with
  | nil => rfl
  | append_singleton bs b ih =>
    rw [storeBytes_concat, List.length_append, List.length_singleton]
    by_cases hlast : k = bs.length
    · rw [hlast, Memory.get_set_same, if_pos (by omega)]
      simp
    · rw [Memory.get_set_other _ _ hlast, ih]
      by_cases hlt : k < bs.length
      · rw [if_pos hlt, if_pos (by omega), List.getD_append _ _ _ _ hlt]
      · rw [if_neg hlt, if_neg (by omega)]

/-- A byte of the buffer after a run of stores is the byte stored there, or the one before. -/
theorem bufByte_of_storeBytes {s t : State} {bytes : List Byte} (hbuf : t.buf = storeBytes s.buf bytes)
    (hresets : t.resets = s.resets) (k : BitVec 9) :
    bufByte t k = if k.toNat < bytes.length then bytes.getD k.toNat 0 else bufByte s k := by
  by_cases hlt : k.toNat < bytes.length
  · simp [bufByte, hbuf, get_storeBytes, hlt]
  · simp [bufByte, hbuf, hresets, get_storeBytes, hlt]

/-! ## The burst -/

/-- The transport delivers what it says where it can fall short and says no more than a block, else a block. -/
theorem burstDelivered_eq (n : BitVec 10) :
    burstDelivered n = if Config.shortReadPossible = true ∧ n ≤ 512 then n else 512 := by
  by_cases hfull : n = 512
  · simp [burstDelivered, hfull]
  · rw [burstDelivered, if_neg hfull]
    cases Config.shortReadPossible <;> simp

/-- The burst with the payload bytes received so far (R163). -/
def inPayload (bytes rest : List Byte) (s : State) : State :=
  { afterExchanges (bytes.map fun _ => idleByte) bytes rest s with
    buf := storeBytes s.buf bytes
    ctl := .payloadIn (BitVec.ofNat 10 bytes.length) }

theorem inPayload_nil {rest : List Byte} {s : State} (hctl : s.ctl = .payloadIn 0) (hrx : s.rxQueue = rest) :
    inPayload [] rest s = s := by
  rw [inPayload, List.map_nil, afterExchanges_nil hrx]; exact ctl_update_self hctl

/-- The place of a payload byte is its number. -/
theorem payload_place {n : Nat} (hn : n < 512) : ((BitVec.ofNat 10 n).setWidth 9).toNat = n := by
  simp; omega

/-- Within the count one more byte is received and stored. -/
theorem controllerStep_inPayload {bytes rest : List Byte} {b : Byte} {s : State} (hlen : bytes.length < s.burstCount.toNat)
    (hblock : bytes.length < 512) :
    controllerStep (inPayload bytes (b :: rest) s) = .next (inPayload (bytes ++ [b]) rest s) := by
  have hlt : BitVec.ofNat 10 bytes.length < s.burstCount := by
    rw [BitVec.lt_def, BitVec.toNat_ofNat, Nat.mod_eq_of_lt (by omega)]
    exact hlen
  have hrecv : recvPayload (BitVec.ofNat 10 bytes.length) (inPayload bytes (b :: rest) s) =
      { exchange idleByte (afterExchanges (bytes.map fun _ => idleByte) bytes (b :: rest) s) with
        buf := Memory.set (storeBytes s.buf bytes) ((BitVec.ofNat 10 bytes.length).setWidth 9).toNat b
        ctl := .payloadIn (BitVec.ofNat 10 bytes.length + 1) } := if_pos hlt
  rw [controllerStep_payloadIn rfl, hrecv, payload_place hblock, exchange_afterExchanges (List.length_map _), inPayload,
    List.map_append, storeBytes_concat, List.length_append, BitVec.ofNat_add]
  rfl

theorem controllerRun_inPayload {bytes rest : List Byte} {s : State} (hctl : s.ctl = .payloadIn 0)
    (hrx : s.rxQueue = bytes ++ rest) (hlen : bytes.length ≤ s.burstCount.toNat) (hblock : bytes.length ≤ 512) :
    controllerRun bytes.length s = .next (inPayload bytes rest s) := by
  induction bytes using List.reverseRecOn generalizing rest with
  | nil => exact congrArg Host.Outcome.next (inPayload_nil hctl hrx).symm
  | append_singleton bs b ih =>
    rw [List.length_append, List.length_singleton] at hlen hblock ⊢
    have hrun := ih (rest := b :: rest) (by simpa using hrx) (by omega) (by omega)
    rw [controllerRun_add hrun, controllerRun_one, controllerStep_inPayload hlen hblock]

/-- With the count reached the check field follows. -/
theorem controllerStep_inPayload_done {bytes rest : List Byte} {s : State} (hlen : bytes.length = s.burstCount.toNat) :
    controllerStep (inPayload bytes rest s) = .next { inPayload bytes rest s with ctl := .checkInHi } := by
  have hcount : BitVec.ofNat 10 bytes.length = s.burstCount := by rw [hlen, BitVec.ofNat_toNat, BitVec.setWidth_eq]
  obtain ⟨hlt, -⟩ | ⟨-, hcheck⟩ := recvPayload_cases (BitVec.ofNat 10 bytes.length) (inPayload bytes rest s)
  · rw [hcount] at hlt; exact absurd hlt (BitVec.lt_irrefl s.burstCount)
  · rw [controllerStep_payloadIn rfl, hcheck]

/-! ## The check field -/

/-- The state after both bytes of the check field (R164). -/
def withCheckField (hi lo : Byte) (rest : List Byte) (s : State) : State :=
  { s with
    lastRx := lo, rxQueue := rest, draws := s.draws + 2, trace := .xchg idleByte lo :: .xchg idleByte hi :: s.trace
    wireCrc := hi ++ lo, rcrc := hi ++ lo, phase := .crcCheck, ctl := .crcCheck }

theorem extractLsb'_append_high (hi lo : Byte) : (hi ++ lo).extractLsb' 8 8 = hi := by
  rw [BitVec.extractLsb'_append_eq_of_le (by decide)]; simp

theorem controllerRun_checkField {s : State} {hi lo : Byte} {rest : List Byte} (hctl : s.ctl = .checkInHi)
    (hrx : s.rxQueue = hi :: lo :: rest) : controllerRun 2 s = .next (withCheckField hi lo rest s) := by
  rw [controllerRun_succ (controllerStep_checkInHi hctl), controllerRun_one, controllerStep_checkInLo rfl]
  simp [recvCheckLo, recvCheckHi, withCheckField, exchange, rxNext, hrx, extractLsb'_append_high]

/-- READ from the first payload byte to its tests. -/
theorem controllerRun_burst {s : State} {payload rest : List Byte} {hi lo : Byte} (hctl : s.ctl = .payloadIn 0)
    (hblock : s.burstCount ≤ 512) (hlen : payload.length = s.burstCount.toNat) (hrx : s.rxQueue = payload ++ hi :: lo :: rest) :
    controllerRun (s.burstCount.toNat + 3) s =
      .next (withCheckField hi lo rest (inPayload payload (hi :: lo :: rest) s)) := by
  rw [BitVec.le_def] at hblock
  have hpayload := controllerRun_inPayload hctl hrx hlen.le (hlen ▸ hblock)
  rw [← hlen, controllerRun_add hpayload, controllerRun_succ (controllerStep_inPayload_done hlen),
    controllerRun_checkField rfl rfl]
  rfl

end Sys2Proof.Machine

namespace Sys2Proof

open Machine

/-- Settles O41: the payload, the check field, and the tests of O40. -/
theorem readReceivesAndChecksTheBlock : Obligations.ReadReceivesAndChecksTheBlock := by
  unfold Obligations.ReadReceivesAndChecksTheBlock
  refine ⟨fun s hctl => ?burst, ?block⟩
  case burst =>
    rw [controllerStep_burst hctl, startBurst, drawBurst, burstDelivered_eq]
  case block =>
    intro s payload hi lo flush rest hctl hcmd hcs hblock hlen hrx
    have hburst := controllerRun_burst hctl hblock hlen hrx
    rw [show s.burstCount.toNat + 6 = (s.burstCount.toNat + 3) + 3 by omega, controllerRun_add hburst]
    refine ⟨_, controllerRun_crcCheck rfl hcmd hcs, ?_, rfl, rfl, rfl, rfl, rfl, rfl, rfl, rfl, rfl, ?_⟩
    · rw [← hlen]; exact bufByte_of_storeBytes rfl rfl
    · simp [blockError, withCheckField, inPayload, afterExchanges, complete, exchange, releaseCs, csDeassert, rxNext, idleByte]

end Sys2Proof
end
